-- ==== Sys2Proof/Word.lean ====
section
/-! DEFINITION. The two word types of the frame engine (spec/00_scope.md R6, R7): the byte of the serial link and
the u16 reading. Both are unsigned; there is no signed quantity in this hardware. -/

namespace Sys2Proof

/-- R6 `BYTE_W` = 8, R7 "A *byte* is an unsigned 8-bit value". -/
abbrev Byte := BitVec 8

/-- R6 `READ_W` = 16, R7 "A *u16* is an unsigned 16-bit value". -/
abbrev Reading := BitVec 16

end Sys2Proof
end

