-- ==== Sys2Proof/Machine/Boundary.lean ====
section
/-! DEFINITION. What crosses the boundary of the frame engine (spec/20_memory.md R24, spec/10_state.md R16, R20): the
driver calls, the FrameEvents, the events of the output trace, and the stimuli by which the environment chooses the
next step (spec/30_encoding.md R45). -/

namespace Sys2Proof.Machine

/-- R23, R24 (3): the four value-less actions of the power control driver. -/
inductive PowerAction where
  /-- `enable_main_supply()` -/
  | mainOn
  /-- `disable_main_supply()` -/
  | mainOff
  /-- `enable_battery_supply()` -/
  | battOn
  /-- `disable_battery_supply()` -/
  | battOff
  deriving DecidableEq, Repr

/-- R23, R24 (4): the four read-only channels of the measurement driver. -/
inductive Channel where
  /-- `read_dc_voltage() -> u16` -/
  | dcV
  /-- `read_dc_current() -> u16` -/
  | dcI
  /-- `read_battery_voltage() -> u16` -/
  | battV
  /-- `read_battery_current() -> u16` -/
  | battI
  deriving DecidableEq, Repr

/-- R16: the result of one `accept_byte` step. -/
inductive FrameEvent where
  /-- The byte was accepted and the frame is not yet complete. -/
  | continue_
  /-- The byte was the end marker at position 2; a command is now pending. -/
  | frameReady
  /-- The byte was rejected; the cursor is 0 after the step. -/
  | frameDiscarded
  deriving DecidableEq, Repr

/-- R20: one event of the output trace. -/
inductive Event where
  /-- `Act(a)`: a call of the power control driver. -/
  | act (a : PowerAction)
  /-- `Read(chan)`: a call of the measurement driver. -/
  | read (c : Channel)
  /-- `Tx(b)`: a call of the transport's `send_byte`. -/
  | tx (b : Byte)
  /-- `Wake`: the wake notification to the idle loop (R55). -/
  | wake
  /-- The FrameEvent of an `accept_byte` step. -/
  | frame (e : FrameEvent)
  deriving DecidableEq, Repr

/-- R45, R30: which step happens next, as the environment and the scheduler choose it. -/
inductive Stimulus where
  /-- `rx b`: one `accept_byte(b)` step. -/
  | rx (b : Byte)
  /-- `dispatch` (`none`: the readings are free) or `dispatch v, i` (`some (v, i)`: the voltage read returns `v` and
  the current read returns `i`). -/
  | dispatch (readings : Option (Reading × Reading))
  /-- `tx`: one `tx_byte` step; choosing it says that the transport is ready (R74, R77). -/
  | tx
  /-- `retire`: one `retire` step (R76). -/
  | retire
  /-- `reset`: `rst` is high for a while (R94); `lost` are the bytes offered on `rx_data` meanwhile. -/
  | reset (lost : List Byte)
  /-- No agent moves: the transport is not ready, or nothing arrives (R77, R93). DESIGN CHOICE, log entry 2. -/
  | idle
  deriving DecidableEq, Repr, Inhabited

end Sys2Proof.Machine
end

