-- ==== Sys2Proof/Config.lean ====
section
/-! DEFINITION. What an implementation fixes: the named parameters of spec/00_scope.md R6 and spec/92_eei_decisions.md
(CLEAR_POINT, MEAS_ORDER), and the free values of the environment. -/

namespace Sys2Proof.Config

/-- R6 `SYNC`, the sync marker. UNVERIFIED against the repository (D15), log entry 9, as every literal below. -/
def sync : Byte := 0x80
/-- R6 `END`, the end marker. -/
def endMark : Byte := 0xFF
/-- R6 `ACK`, payload byte 0 of an acknowledging response. -/
def ack : Byte := 0x01
/-- R6 `OP_PING`. -/
def opPing : Byte := 0x01
/-- R6 `OP_DC_ON`. -/
def opDcOn : Byte := 0x02
/-- R6 `OP_DC_OFF`. -/
def opDcOff : Byte := 0x03
/-- R6 `OP_BATT_ON`. -/
def opBattOn : Byte := 0x04
/-- R6 `OP_BATT_OFF`. -/
def opBattOff : Byte := 0x05
/-- R6 `OP_MEAS_DC`. -/
def opMeasDc : Byte := 0x06
/-- R6 `OP_MEAS_BATT`. -/
def opMeasBatt : Byte := 0x07

/-- The seven recognised opcodes, the closed set of R39. -/
def opcodes : List Byte := [opPing, opDcOn, opDcOff, opBattOn, opBattOff, opMeasDc, opMeasBatt]

/-- R6 `CMD_LEN`. -/
def cmdLen : Nat := 3
/-- R6 `RSP_LEN`. -/
def rspLen : Nat := 7
/-- R6 `PAYLOAD_LEN`. -/
def payloadLen : Nat := 4

/-- D5, U9: the parameter `CLEAR_POINT`. -/
inductive ClearPoint where
  /-- `after_tx` (default): `pending` falls in the `retire` step (R33, R76). -/
  | afterTx
  /-- `before_tx`: `pending` falls in the `dispatch` step and `retire` leaves it alone. Which step of the sending side
  clears it is a DESIGN CHOICE, log entry 7. -/
  | beforeTx
  deriving DecidableEq, Repr

/-- R33, R76, D5: the flag is cleared after the last response byte. -/
def clearPoint : ClearPoint := .afterTx

/-- D10, U14: the parameter `MEAS_ORDER`. -/
inductive MeasOrder where
  /-- Default: the voltage is read before the current (R65, R66). -/
  | voltageFirst
  /-- The other order, which the source does not exclude. -/
  | currentFirst
  deriving DecidableEq, Repr

/-- R65, R66, D10: "The voltage is read before the current". -/
def measOrder : MeasOrder := .voltageFirst

/-- FREE VALUE (R20, R65, U13, D23): the u16 the driver returns to the `n`-th read, on this channel, where the
environment has not scripted it. No body: any two values, under no law. Log entry 3. -/
opaque freeReading : Machine.Channel → Nat → Reading

/-- FREE VALUE (R25): the byte on `tx_data` while `tx_valid` is low, which the spec does not give. `σ` is whatever the
byte may depend on. No body: any byte. Log entry 19. -/
opaque idleTxData {σ : Type} : σ → Byte

/-- FREE VALUE (R20, R30, D2): the `n`-th unscripted choice of the environment. No body: any bytes, in any
interleaving. Log entry 2. -/
opaque freeStimulus : Nat → Machine.Stimulus

end Sys2Proof.Config
end

