-- ==== Sys2Proof/Machine/Frames.lean ====
section
/-! DEFINITION. The two frame records and their serialize/deserialize pairs (spec/42_serializer.md R79,
spec/30_encoding.md R36, R37): field order is byte order, with no padding. -/

namespace Sys2Proof.Machine

/-- R8, R10, R36: the 3-byte record `sync`, `cmd`, `end`; as registers, `cbuf[0..2]`. -/
structure CommandFrame where
  /-- `cbuf[0]` -/
  sync : Byte
  /-- `cbuf[1]`, the opcode -/
  cmd : Byte
  /-- `cbuf[2]`, the spec's `end` -/
  endMark : Byte
  deriving DecidableEq, Repr

/-- R40: the four payload bytes of a response. -/
structure Payload where
  /-- `payload[0]` -/
  p0 : Byte
  /-- `payload[1]` -/
  p1 : Byte
  /-- `payload[2]` -/
  p2 : Byte
  /-- `payload[3]` -/
  p3 : Byte
  deriving DecidableEq, Repr

/-- R8, R13, R37: the 7-byte record `sync`, `cmd`, `payload`, `end`; as registers, `rbuf[0..6]`. -/
structure ResponseFrame where
  /-- `rbuf[0]` -/
  sync : Byte
  /-- `rbuf[1]`, the opcode echo -/
  cmd : Byte
  /-- `rbuf[2..5]` -/
  payload : Payload
  /-- `rbuf[6]`, the spec's `end` -/
  endMark : Byte
  deriving DecidableEq, Repr

/-- R79: the bytes of a command frame in wire order. -/
def CommandFrame.serialize (f : CommandFrame) : List Byte := [f.sync, f.cmd, f.endMark]

/-- R79: `deserialize([b0, b1, b2])`; the length is fixed, so any other list is no record. -/
def CommandFrame.deserialize : List Byte → Option CommandFrame
  | [b0, b1, b2] => some ⟨b0, b1, b2⟩
  | _ => none

/-- R79: `serialize(ResponseFrame)` = `rbuf[0..6]`, the wire order of R26. -/
def ResponseFrame.serialize (f : ResponseFrame) : List Byte :=
  [f.sync, f.cmd, f.payload.p0, f.payload.p1, f.payload.p2, f.payload.p3, f.endMark]

/-- `rbuf[i]`, R13. -/
def ResponseFrame.get (f : ResponseFrame) : Fin 7 → Byte
  | 0 => f.sync
  | 1 => f.cmd
  | 2 => f.payload.p0
  | 3 => f.payload.p1
  | 4 => f.payload.p2
  | 5 => f.payload.p3
  | 6 => f.endMark

end Sys2Proof.Machine
end

