-- ==== Sys2Proof/Syntax.lean ====
section
/-! DEFINITION. The instructions of the frame engine: one constructor per row of spec/opcode_table.json
(spec/30_encoding.md R39). A command has no operand (R40, R45); the default row carries the unrecognised opcode. -/

namespace Sys2Proof

/-- A command, as the dispatcher selects it from the opcode byte of the command frame (R39). -/
inductive Instr where
  /-- PING, R60. -/
  | ping
  /-- DC_ON, R61. -/
  | dcOn
  /-- DC_OFF, R62. -/
  | dcOff
  /-- BATT_ON, R63. -/
  | battOn
  /-- BATT_OFF, R64. -/
  | battOff
  /-- MEAS_DC, R65. -/
  | measDc
  /-- MEAS_BATT, R66. -/
  | measBatt
  /-- UNKNOWN(`c`), R67: a command frame whose opcode `c` is none of the seven (R41, R45). -/
  | unknown (c : Byte)
  deriving DecidableEq, Repr

end Sys2Proof
end

