-- ==== Sys2Proof/WellFormed.lean ====
section
/-! DEFINITION. Well-formed instructions (spec/30_encoding.md R38, R39, R41): the default row is taken only when no
opcode row matches, so UNKNOWN(`c`) is a command only for `c` outside the seven opcodes. -/

namespace Sys2Proof

/-- R41: `c` is one of the 249 values outside 0x01 to 0x07. -/
def Instr.wellFormed : Instr → Bool
  | .unknown c => !Config.opcodes.contains c
  | .ping | .dcOn | .dcOff | .battOn | .battOff | .measDc | .measBatt => true

end Sys2Proof
end

