-- ==== Sys2Proof/Decode.lean ====
section
/-! DEFINITION. Decoding of command frames, total on any bytes and rejecting by name; then the encoder, written from
the same tables (spec/30_encoding.md R36 to R42), and the opcode table as match and mask rows (R38, R39). -/

namespace Sys2Proof

/-- R39: "Decoding looks at all 8 bits of `cmd`"; every other value selects the default row (R41). -/
def decodeOpcode (c : Byte) : Instr :=
  if c = Config.opPing then .ping
  else if c = Config.opDcOn then .dcOn
  else if c = Config.opDcOff then .dcOff
  else if c = Config.opBattOn then .battOn
  else if c = Config.opBattOff then .battOff
  else if c = Config.opMeasDc then .measDc
  else if c = Config.opMeasBatt then .measBatt
  else .unknown c

/-- Why bytes are no command frame (R36, R42). -/
inductive DecodeError where
  /-- Fewer than the three bytes every command frame has (R43). -/
  | truncated
  /-- Position 0 is not `SYNC` (R42). -/
  | badSync (b : Byte)
  /-- Position 2 is not `END` (R42). -/
  | badEnd (b : Byte)
  deriving DecidableEq, Repr

/-- R36: "a CommandFrame is considered *valid* only if `sync` and `end` hold their reserved values". The rest of the
bytes is returned untouched: a frame is always three bytes (R43). -/
def decodeBytes : List Byte → Except DecodeError (Instr × List Byte)
  | b0 :: b1 :: b2 :: rest =>
    if b0 ≠ Config.sync then .error (.badSync b0)
    else if b2 ≠ Config.endMark then .error (.badEnd b2)
    else .ok (decodeOpcode b1, rest)
  | _ => .error .truncated

/-- R38: the three bytes of a frame written as one word, position 0 in bits 23..16; bits at or above `nbits` are 0. -/
def frameOfWord (nbits w : Nat) : Machine.CommandFrame :=
  let x := w % 2 ^ nbits
  ⟨BitVec.ofNat 8 (x / 65536), BitVec.ofNat 8 (x / 256), BitVec.ofNat 8 x⟩

/-- The decoder on a word numbered as spec/opcode_table.json numbers it. -/
def decodeTableWord (nbits w : Nat) : Option Instr :=
  match decodeBytes (frameOfWord nbits w).serialize with
  | .ok (i, _) => some i
  | .error _ => none

/-! ## The encoder -/

/-- R39: the `cmd` column. -/
def Instr.opcode : Instr → Byte
  | .ping => Config.opPing
  | .dcOn => Config.opDcOn
  | .dcOff => Config.opDcOff
  | .battOn => Config.opBattOn
  | .battOff => Config.opBattOff
  | .measDc => Config.opMeasDc
  | .measBatt => Config.opMeasBatt
  | .unknown c => c

/-- R36: `[0x80, <opcode>, 0xFF]`. -/
def encode (i : Instr) : List Byte := [Config.sync, i.opcode, Config.endMark]

/-- R38: `word = {sync, cmd, end}`. -/
def encodeWord (i : Instr) : BitVec 24 := Config.sync ++ i.opcode ++ Config.endMark

/-! ## The opcode table as the spec prints it -/

/-- One row of R39: a frame selects the row whose `(word and mask) == match`. -/
structure OpcodeRow where
  /-- The column `match`. -/
  pattern : BitVec 24
  /-- The column `mask`. -/
  mask : BitVec 24
  /-- The command of the row. -/
  instr : Instr
  deriving DecidableEq, Repr

/-- The seven opcode rows of R39. -/
def opcodeRows : List OpcodeRow :=
  [⟨0x8001FF, 0xFFFFFF, .ping⟩, ⟨0x8002FF, 0xFFFFFF, .dcOn⟩, ⟨0x8003FF, 0xFFFFFF, .dcOff⟩,
   ⟨0x8004FF, 0xFFFFFF, .battOn⟩, ⟨0x8005FF, 0xFFFFFF, .battOff⟩, ⟨0x8006FF, 0xFFFFFF, .measDc⟩,
   ⟨0x8007FF, 0xFFFFFF, .measBatt⟩]

/-- R38: `(word and mask) == match`. -/
def OpcodeRow.hits (r : OpcodeRow) (w : BitVec 24) : Bool := w &&& r.mask == r.pattern

/-- R38: the opcode rows first; the default row, match 0x8000FF under mask 0xFF00FF, "only when no opcode row
matches", and otherwise no row at all. -/
def selectRow (w : BitVec 24) : Option Instr :=
  match opcodeRows.find? (·.hits w) with
  | some r => some r.instr
  | none => if w &&& 0xFF00FF = 0x8000FF then some (.unknown (w.extractLsb' 8 8)) else none

end Sys2Proof
end

