-- ==== Sys2Proof/Machine/State.lean ====
section
/-! DEFINITION. The state of the frame engine (spec/10_state.md R9), the output trace (R20), the environment's inputs as
plain data, the ways a step can stop, and the state after reset (R22). -/

namespace Sys2Proof.Machine

/-- R11: the "position within the frame being assembled, 0–2", three-valued as R54 asks. -/
inductive Cursor where
  /-- 0: hunting for the sync marker. -/
  | pos0
  /-- 1: the next byte is the opcode. -/
  | pos1
  /-- 2: the next byte must be the end marker. -/
  | pos2
  deriving DecidableEq, Repr

/-- R14: the dispatcher phase. -/
inductive Phase where
  /-- `Idle`: no command is being served. -/
  | idle
  /-- `Send`: `rbuf` holds the response and the serializer is emitting it. -/
  | send
  /-- `Retire`: the last byte has been handed over and `pending` is about to be cleared. -/
  | retire
  deriving DecidableEq, Repr

/-- The whole state: R9's tuple, then the trace of R20, then the environment (the model's own fields). -/
structure State where
  /-- R11. -/
  cursor : Cursor
  /-- R10: `cbuf[0..2]`. -/
  cbuf : CommandFrame
  /-- R12: the PendingCommand flag. -/
  pending : Bool
  /-- R13: `rbuf[0..6]`. -/
  rbuf : ResponseFrame
  /-- R14. -/
  dphase : Phase
  /-- R15: the response index, 0 to 6. -/
  txidx : Fin 7
  /-- R20: the output trace, oldest event first. Not hardware state. -/
  trace : List Event
  /-- The model's own: the environment's scripted choices still to come, oldest first (R45). Log entry 2. -/
  stimuli : List Stimulus
  /-- The model's own: the readings (voltage, current) fixed for the dispatch being taken; `none`: free. Log entry 3. -/
  measData : Option (Reading × Reading)
  /-- The model's own: how many unscripted choices have been taken. Log entry 2. -/
  choices : Nat
  /-- The model's own: how many `DrvRead` calls have been made. Log entry 3. -/
  draws : Nat
  deriving DecidableEq, Repr

/-- Machine faults: there is none. R80: "The block raises no exception, trap or fault of any kind." -/
inductive Fault where
  deriving DecidableEq, Repr

/-- Why a step has no meaning. -/
inductive Refusal where
  /-- Raised by `exec` alone, for an instruction without a meaning yet. Safe. -/
  | notModelled (mnemonic : String)
  /-- Raised by `step`, for a SCRIPTED stimulus whose step is not enabled in the state: R45 "is an error in the test
  program, not a behaviour of the hardware". Safe: no behaviour is added. The environment's free choices never raise it. -/
  | notEnabled (st : Stimulus)
  deriving DecidableEq, Repr

/-- R22: `cursor` = 0, `pending` = 0, `dphase` = `Idle`, `txidx` = 0. The buffers, which R22 leaves unspecified, are
zero: DESIGN CHOICE, log entry 1. No output event has happened and nothing is scripted. -/
def State.reset : State where
  cursor := .pos0
  cbuf := ⟨0, 0, 0⟩
  pending := false
  rbuf := ⟨0, 0, ⟨0, 0, 0, 0⟩, 0⟩
  dphase := .idle
  txidx := 0
  trace := []
  stimuli := []
  measData := none
  choices := 0
  draws := 0

end Sys2Proof.Machine
end

