-- ==== Sys2Proof/Machine/Flags.lean ====
section
/-! DEFINITION. The flag side of the block: how a received byte is classified from `cursor`, `pending` and the byte
(spec/30_encoding.md R44, spec/40_reassembler.md R48), the FrameEvent of each class (R16), and `pending`'s one setter and
one clearer (spec/10_state.md R12, R19). -/

namespace Sys2Proof.Machine

/-- R44: the classes of a received byte. -/
inductive ByteClass where
  /-- Frame start, R49. -/
  | frameStart
  /-- Noise: not `SYNC` at cursor 0, R50. -/
  | noise
  /-- Blocked: any byte at cursor 0 while a command is pending, R50. -/
  | blocked
  /-- Opcode, R51. -/
  | opcode
  /-- Frame end, R52. -/
  | frameEnd
  /-- Bad end, R53. -/
  | badEnd
  deriving DecidableEq, Repr

/-- R48, in the order of its pseudocode; `pending` is looked at at cursor 0 only. -/
def classify (cursor : Cursor) (pending : Bool) (b : Byte) : ByteClass :=
  match cursor with
  | .pos0 => if pending then .blocked else if b = Config.sync then .frameStart else .noise
  | .pos1 => .opcode
  | .pos2 => if b = Config.endMark then .frameEnd else .badEnd

/-- R44, column "result": the FrameEvent each class emits. -/
def ByteClass.event : ByteClass → FrameEvent
  | .frameStart | .opcode => .continue_
  | .frameEnd => .frameReady
  | .noise | .blocked | .badEnd => .frameDiscarded

/-- R12, R52: the one step that sets `pending`. -/
def setPending (s : State) : State := { s with pending := true }

/-- R12, R76: the one step that clears `pending`. -/
def clearPending (s : State) : State := { s with pending := false }

end Sys2Proof.Machine
end

