-- ==== Sys2Proof/Machine/Operands.lean ====
section
/-! DEFINITION. The data a response is made of: the byte split of a reading (spec/41_dispatcher.md R68,
spec/20_memory.md R27), the three payload forms (spec/30_encoding.md R40) and the building of a frame (R59). A command
has no operand (R40). -/

namespace Sys2Proof.Machine

/-- R68: `r[15:8]`. -/
def hiByte (r : Reading) : Byte := r.extractLsb' 8 8

/-- R68: `r[7:0]`. -/
def loByte (r : Reading) : Byte := r.extractLsb' 0 8

/-- R40 form ZERO, and the zero-initialised payload of R59. -/
def Payload.zero : Payload := ⟨0, 0, 0, 0⟩

/-- R40 form ACK: "byte0 = 1", the rest of the zero-initialised payload stays. -/
def Payload.ack : Payload := { Payload.zero with p0 := Config.ack }

/-- R40 form MEAS: voltage then current, each high byte first (R27). -/
def Payload.meas (v i : Reading) : Payload := ⟨hiByte v, loByte v, hiByte i, loByte i⟩

/-- R59: all seven bytes written, markers from the constants (R70), the opcode echoed verbatim. -/
def buildResponse (c : Byte) (p : Payload) : ResponseFrame := ⟨Config.sync, c, p, Config.endMark⟩

/-- R65, R66: which of the two readings of `dispatch v, i` a channel carries. -/
def Channel.pick (c : Channel) (vi : Reading × Reading) : Reading :=
  match c with
  | .dcV | .battV => vi.1
  | .dcI | .battI => vi.2

end Sys2Proof.Machine
end

