-- ==== Sys2Proof/Machine/Ops.lean ====
section
/-! DEFINITION. The shared operations: the primitives of spec/00_scope.md R7 (`Act`, `DrvRead`, `Tx`, `emit`, `wake`) and
the common part of every response (spec/41_dispatcher.md R58, R59). The block has no memory (spec/20_memory.md R23) and
takes no exception (spec/60_exceptions.md R80), so neither has an operation here. -/

namespace Sys2Proof.Machine

/-- R7, R20: append one event to the output trace. -/
def emit (e : Event) (s : State) : State := { s with trace := s.trace ++ [e] }

/-- R7 `Act(a)`: one fire-and-forget action, always taken (R71). -/
def act (a : PowerAction) (s : State) : State := emit (.act a) s

/-- The u16 the next `DrvRead(c)` returns: the environment's, where it is fixed, else a fresh free value (R65, D23). -/
def nextReading (c : Channel) (s : State) : Reading :=
  match s.measData with
  | some vi => c.pick vi
  | none => Config.freeReading c s.draws

/-- R7 `DrvRead(c)`: one `Read(c)` event, and the driver always answers (R71). -/
def drvRead (c : Channel) (s : State) : Reading × State :=
  (nextReading c s, emit (.read c) { s with draws := s.draws + 1 })

/-- R58, R59: the response of opcode `c` is complete in `rbuf`, and sending starts at index 0. -/
def respond (c : Byte) (p : Payload) (s : State) : State :=
  { s with rbuf := buildResponse c p, txidx := 0, dphase := .send }

/-- R65, R66: both reads, each exactly once, in the order of `MEAS_ORDER` (D10); the payload is voltage then current
whatever the order. -/
def respondMeasured (o : Config.MeasOrder) (c : Byte) (vch ich : Channel) (s : State) : State :=
  match o with
  | .voltageFirst =>
    let rv := drvRead vch s
    let ri := drvRead ich rv.2
    respond c (Payload.meas rv.1 ri.1) ri.2
  | .currentFirst =>
    let ri := drvRead ich s
    let rv := drvRead vch ri.2
    respond c (Payload.meas rv.1 ri.1) rv.2

end Sys2Proof.Machine
end

