-- ==== Sys2Proof/Machine/Measure.lean ====
section
/-! DEFINITION. The meanings of the two measurement commands (spec/41_dispatcher.md R65, R66): two driver reads, then
response form MEAS. -/

namespace Sys2Proof.Machine

/-- R65: the DC channels. -/
def execMeasDc (s : State) : Host.Outcome State Fault Refusal :=
  .next (respondMeasured Config.measOrder Config.opMeasDc .dcV .dcI s)

/-- R66: the battery channels. -/
def execMeasBatt (s : State) : Host.Outcome State Fault Refusal :=
  .next (respondMeasured Config.measOrder Config.opMeasBatt .battV .battI s)

end Sys2Proof.Machine
end

