-- ==== Sys2Proof/Machine/Plain.lean ====
section
/-! DEFINITION. The meanings of the two commands that touch nothing outside the response: PING and UNKNOWN
(spec/41_dispatcher.md R60, R67). -/

namespace Sys2Proof.Machine

/-- R60: response form ACK, no event. -/
def execPing (s : State) : Host.Outcome State Fault Refusal :=
  .next (respond Config.opPing Payload.ack s)

/-- R67: echo, payload ZERO, no event, no error. -/
def execUnknown (c : Byte) (s : State) : Host.Outcome State Fault Refusal :=
  .next (respond c Payload.zero s)

end Sys2Proof.Machine
end

