-- ==== Sys2Proof/Machine/Power.lean ====
section
/-! DEFINITION. The meanings of the four power commands (spec/41_dispatcher.md R61 to R64): one action, sent
unconditionally (D16), then response form ACK. -/

namespace Sys2Proof.Machine

/-- R61: `Act(MainOn)`. -/
def execDcOn (s : State) : Host.Outcome State Fault Refusal :=
  .next (respond Config.opDcOn Payload.ack (act .mainOn s))

/-- R62: `Act(MainOff)`. -/
def execDcOff (s : State) : Host.Outcome State Fault Refusal :=
  .next (respond Config.opDcOff Payload.ack (act .mainOff s))

/-- R63: `Act(BattOn)`. -/
def execBattOn (s : State) : Host.Outcome State Fault Refusal :=
  .next (respond Config.opBattOn Payload.ack (act .battOn s))

/-- R64: `Act(BattOff)`. -/
def execBattOff (s : State) : Host.Outcome State Fault Refusal :=
  .next (respond Config.opBattOff Payload.ack (act .battOff s))

end Sys2Proof.Machine
end

