-- ==== Sys2Proof/Machine/Dispatch.lean ====
section
/-! DEFINITION. One arm per constructor of Instr: the opcode selection of spec/41_dispatcher.md R58, R60 to R67. -/

namespace Sys2Proof.Machine

def exec (i : Instr) (s : State) : Host.Outcome State Fault Refusal :=
  match i with
  | .ping => Sys2Proof.Machine.execPing s
  | .dcOn => Sys2Proof.Machine.execDcOn s
  | .dcOff => Sys2Proof.Machine.execDcOff s
  | .battOn => Sys2Proof.Machine.execBattOn s
  | .battOff => Sys2Proof.Machine.execBattOff s
  | .measDc => Sys2Proof.Machine.execMeasDc s
  | .measBatt => Sys2Proof.Machine.execMeasBatt s
  | .unknown c => Sys2Proof.Machine.execUnknown c s

end Sys2Proof.Machine
end

