-- ==== Sys2Proof/Machine/Reassembler.lean ====
section
/-! DEFINITION. The Frame Reassembler's one operation, `accept_byte` (spec/40_reassembler.md R47 to R57). -/

namespace Sys2Proof.Machine

/-- R49 to R53: what a byte of each class writes; a rejected byte at cursor 0 writes nothing. -/
def storeByte (k : ByteClass) (b : Byte) (s : State) : State :=
  match k with
  | .frameStart => { s with cbuf := { s.cbuf with sync := b }, cursor := .pos1 }
  | .opcode => { s with cbuf := { s.cbuf with cmd := b }, cursor := .pos2 }
  | .frameEnd => setPending { s with cbuf := { s.cbuf with endMark := b }, cursor := .pos0 }
  | .badEnd => { s with cursor := .pos0 }
  | .noise | .blocked => s

/-- R7 `emit E`, R20, R55: the FrameEvent goes to the trace, followed by `Wake` on `FrameReady` and on no other event. -/
def emitFrameEvent (e : FrameEvent) (s : State) : State :=
  match e with
  | .frameReady => emit .wake (emit (.frame .frameReady) s)
  | .continue_ => emit (.frame .continue_) s
  | .frameDiscarded => emit (.frame .frameDiscarded) s

/-- R47: `accept_byte(byte) -> FrameEvent`, enabled in every state; R48 selects the case. -/
def acceptByte (b : Byte) (s : State) : State × FrameEvent :=
  let k := classify s.cursor s.pending b
  (emitFrameEvent k.event (storeByte k b s), k.event)

end Sys2Proof.Machine
end

