-- ==== Sys2Proof/Machine/Serializer.lean ====
section
/-! DEFINITION. The response serializer's two steps, `tx_byte` and `retire` (spec/42_serializer.md R73 to R79), and the
effect of `CLEAR_POINT` (D5) on the step that claims a command and the step that releases it. -/

namespace Sys2Proof.Machine

/-- R74, R75: hand `rbuf[txidx]` to the transport; the last byte leaves `txidx` at 6 and ends sending. -/
def txByte (s : State) : State :=
  let s' := emit (.tx (s.rbuf.get s.txidx)) s
  if s.txidx.val < 6 then { s' with txidx := s.txidx + 1 } else { s' with dphase := .retire }

/-- R76 under `after_tx`: clear `pending` and return to `Idle`. Under `before_tx` the flag was cleared at the claim and
may already stand for a later command, so it is left alone. -/
def retire (cp : Config.ClearPoint) (s : State) : State :=
  match cp with
  | .afterTx => { clearPending s with dphase := .idle }
  | .beforeTx => { s with dphase := .idle }

/-- R58 under `after_tx`: the claim does not change `pending`. Under `before_tx` it clears the flag (log entry 7). -/
def claim (cp : Config.ClearPoint) (s : State) : State :=
  match cp with
  | .afterTx => s
  | .beforeTx => clearPending s

end Sys2Proof.Machine
end

