-- ==== Sys2Proof/Machine/Schedule.lean ====
section
/-! DEFINITION. Which step comes next: the enabling conditions of spec/20_memory.md R30, the environment's choice
(scripted, or free where nothing is scripted), and reset (spec/70_reset_and_hazards.md R94, R95). -/

namespace Sys2Proof.Machine

/-- R30, column "enabled when". A chosen `tx` says that the transport is ready (R74). -/
def enabled (s : State) : Stimulus → Bool
  | .rx _ => true
  | .dispatch _ => s.pending && s.dphase == .idle
  | .tx => s.dphase == .send
  | .retire => s.dphase == .retire
  | .reset _ => true
  | .idle => true

/-- A free choice of the environment respects the enabling conditions (R30); where it would not, no agent moves. -/
def settle (s : State) (st : Stimulus) : Stimulus := if enabled s st then st else .idle

/-- The next step's stimulus, and the state once it is taken off the script: the oldest scripted one, or, where nothing
is scripted, the environment's free choice (R20, R30). -/
def choose (s : State) : Stimulus × State :=
  match s.stimuli with
  | st :: rest => (st, { s with stimuli := rest })
  | [] => (settle s (Config.freeStimulus s.choices), { s with choices := s.choices + 1 })

/-- R94, R95, R22: the hardware state is that of reset, whatever was in progress; no event is appended to the trace, and
the bytes offered meanwhile are lost (U18). The environment's script and counters run on. -/
def applyReset (_lost : List Byte) (s : State) : State :=
  { State.reset with trace := s.trace, stimuli := s.stimuli, choices := s.choices, draws := s.draws }

/-- `s` with `st` as the environment's very next choice. -/
def State.offer (s : State) (st : Stimulus) : State := { s with stimuli := st :: s.stimuli }

end Sys2Proof.Machine
end

