-- ==== Sys2Proof/Machine/Step.lean ====
section
/-! DEFINITION. One atomic step of the block (spec/20_memory.md R30): the environment's next choice, taken if it is
enabled. -/

namespace Sys2Proof.Machine

/-- R58: the dispatcher reads `cbuf[1]` only, never the markers (R70), and runs the command it selects, with the
readings the environment has fixed. -/
def dispatchStep (cp : Config.ClearPoint) (r : Option (Reading × Reading)) (s : State) :
    Host.Outcome State Fault Refusal :=
  match exec (decodeOpcode s.cbuf.cmd) { s with measData := r } with
  | .next t => .next (claim cp t)
  | .fault f => .fault f
  | .refused q => .refused q

/-- The step of each agent, once it is enabled (R30). -/
def take (cp : Config.ClearPoint) (st : Stimulus) (s : State) : Host.Outcome State Fault Refusal :=
  match st with
  | .rx b => .next (acceptByte b s).1
  | .dispatch r => dispatchStep cp r s
  | .tx => .next (txByte s)
  | .retire => .next (retire cp s)
  | .reset lost => .next (applyReset lost s)
  | .idle => .next s

/-- One step under a value of `CLEAR_POINT` (D5). A scripted stimulus that is not enabled is refused (R45). -/
def stepWith (cp : Config.ClearPoint) (s : State) : Host.Outcome State Fault Refusal :=
  let c := choose s
  if enabled s c.1 then take cp c.1 c.2 else .refused (.notEnabled c.1)

/-- One step of the frame engine. -/
def step (s : State) : Host.Outcome State Fault Refusal := stepWith Config.clearPoint s

/-- The received frame of R38's word `w` is pending in `cbuf` (as R52 leaves it), the dispatcher is idle, and the
environment's next choice is `dispatch`, so that the very next step runs the frame's command (log entry 5). -/
def State.withFetchWord (s : State) (nbits w : Nat) : State :=
  { s with
    cursor := .pos0
    cbuf := frameOfWord nbits w
    pending := true
    dphase := .idle
    stimuli := .dispatch none :: s.stimuli }

end Sys2Proof.Machine
end

