-- ==== Sys2Proof/Machine/Ports.lean ====
section
/-! DEFINITION. The port-level reading of spec/20_memory.md R25: what each output signal shows, as a function of the state
(the levels) or of the events a step appends to the trace (the pulses). "A model built at the level of steps needs none of it": no
step reads this file. R25 fixes no clock cycle for the steps (R105), and neither does the model. -/

namespace Sys2Proof.Machine

/-- R11: the two bits of `cursor`; the value 3 is never produced. -/
def Cursor.code : Cursor → BitVec 2
  | .pos0 => 0
  | .pos1 => 1
  | .pos2 => 2

/-- R14: the suggested two bits of `dphase`; 3 is unused. -/
def Phase.code : Phase → BitVec 2
  | .idle => 0
  | .send => 1
  | .retire => 2

/-- R46: the code on `evt`; the value 3 is never driven. -/
def FrameEvent.code : FrameEvent → BitVec 2
  | .continue_ => 0
  | .frameReady => 1
  | .frameDiscarded => 2

/-- R25 `meas_sel`: the channel being read. -/
def Channel.code : Channel → BitVec 2
  | .dcV => 0
  | .dcI => 1
  | .battV => 2
  | .battI => 3

/-- R25: the output levels. -/
structure Levels where
  /-- `pending` -/
  pending : Bool
  /-- `tx_valid` -/
  txValid : Bool
  /-- `tx_data`, which R25 gives a value only while `tx_valid` is high -/
  txData : Byte
  deriving DecidableEq, Repr

/-- R25: `pending` as a level; `tx_valid` "high while `dphase` = `Send`: `tx_data` holds `rbuf[txidx]`". What `tx_data`
shows while `tx_valid` is low the spec leaves open: the model's choice is a free value (DESIGN CHOICE, log entry 19). -/
def levels (s : State) : Levels :=
  ⟨s.pending, s.dphase == .send, if s.dphase = .send then s.rbuf.get s.txidx else Config.idleTxData s⟩

/-- R25: the outputs that pulse for one cycle, with the codes that go with them. A code is there only in the cycle of its
pulse: R25 gives `evt` and `meas_sel` no value in the others, and neither does the model (log entry 19). -/
structure Pulses where
  /-- `evt_valid`, with the code on `evt` -/
  evt : Option (BitVec 2)
  /-- `wake` -/
  wake : Bool
  /-- `act_main_on` -/
  actMainOn : Bool
  /-- `act_main_off` -/
  actMainOff : Bool
  /-- `act_batt_on` -/
  actBattOn : Bool
  /-- `act_batt_off` -/
  actBattOff : Bool
  /-- `meas_req`, with the channel on `meas_sel` -/
  meas : Option (BitVec 2)
  deriving DecidableEq, Repr

/-- No pulse. -/
def Pulses.quiet : Pulses := ⟨none, false, false, false, false, false, none⟩

/-- R25: the lines one event raises by itself; `portCycles` joins those that share a cycle. Each call of R24 is exactly
one pulse. A `Tx` is the handshake of `tx_valid` and `tx_ready`, no pulse. -/
def Event.pulses : Event → Pulses
  | .frame e => { Pulses.quiet with evt := some e.code }
  | .wake => { Pulses.quiet with wake := true }
  | .act .mainOn => { Pulses.quiet with actMainOn := true }
  | .act .mainOff => { Pulses.quiet with actMainOff := true }
  | .act .battOn => { Pulses.quiet with actBattOn := true }
  | .act .battOff => { Pulses.quiet with actBattOff := true }
  | .read c => { Pulses.quiet with meas := some c.code }
  | .tx _ => Pulses.quiet

/-- R25, R21: the cycles in which a list of events shows on the ports, oldest first. `wake` is high "together with" the
code of the event before it, in the same cycle; that this code is `FrameReady`'s is R55's. Every other event has a
cycle of its own (DEDUCED, log entry 15). -/
def portCycles : List Event → List Pulses
  | [] => []
  | e :: .wake :: es => { e.pulses with wake := true } :: portCycles es
  | e :: es => e.pulses :: portCycles es

/-- The cycles of the step from `s` to `t`: those of the events it appended to the trace (R20). -/
def stepCycles (s t : State) : List Pulses := portCycles (t.trace.drop s.trace.length)

/-- How many of the four action lines are high. -/
def Pulses.actCount (p : Pulses) : Nat :=
  p.actMainOn.toNat + p.actMainOff.toNat + p.actBattOn.toNat + p.actBattOff.toNat

end Sys2Proof.Machine
end

