-- ==== Sys2Proof/Safety.lean ====
section
/-! DEFINITION. The terms claims are stated in: the invariants of spec/10_state.md R18, sequences of steps, what of a
trace the host and the devices see (R20), the pure response function of spec/41_dispatcher.md R72, and the relation "no
observer can tell the two states apart" (R10, R13, R15, R18). -/

namespace Sys2Proof.Machine

/-- R18 items (2) to (5), in the form a step keeps: item (3) is carried through the frame being assembled by the two
cursor clauses. Items (1) and (6) hold by the types of `cursor` and `pending`. -/
structure State.Inv (s : State) : Prop where
  /-- (2) while the cursor is not 0 no command is pending. -/
  cursor_pending : s.cursor ≠ .pos0 → s.pending = false
  /-- An open frame began with the sync marker (R49). -/
  open_sync : s.cursor ≠ .pos0 → s.cbuf.sync = Config.sync
  /-- (3) a pending command is well framed. -/
  pending_framed : s.pending = true → s.cbuf.sync = Config.sync ∧ s.cbuf.endMark = Config.endMark
  /-- (4) a command is served only while it is pending. -/
  served_pending : s.dphase ≠ .idle → s.pending = true
  /-- (5) the response being sent is well framed and echoes the pending opcode. -/
  send_framed : s.dphase = .send →
    s.rbuf.sync = Config.sync ∧ s.rbuf.cmd = s.cbuf.cmd ∧ s.rbuf.endMark = Config.endMark

/-- The steps `sts` taken one after another as the environment's choices, under a value of `CLEAR_POINT`; the script of
`s` is left as it was. -/
def feedWith (cp : Config.ClearPoint) : List Stimulus → State → Host.Outcome State Fault Refusal
  | [], s => .next s
  | st :: sts, s =>
    match stepWith cp (s.offer st) with
    | .next t => feedWith cp sts t
    | .fault f => .fault f
    | .refused q => .refused q

/-- The steps `sts` taken one after another by the machine as it is (`Machine.step`). -/
def feed (sts : List Stimulus) (s : State) : Host.Outcome State Fault Refusal := feedWith Config.clearPoint sts s

/-- R45 `cmd M`: the three received bytes of a command. -/
def cmdStimuli (i : Instr) : List Stimulus := (encode i).map .rx

/-- R45 `serve`: `dispatch; tx*; retire`, where `tx*` is the seven steps from `txidx` = 0. -/
def serveStimuli (r : Option (Reading × Reading)) : List Stimulus :=
  .dispatch r :: List.replicate Config.rspLen .tx ++ [.retire]

/-- R20: "The host observes only the `Tx` bytes." -/
def wireBytes (tr : List Event) : List Byte :=
  tr.filterMap fun e => match e with
    | .tx b => some b
    | .act _ | .read _ | .wake | .frame _ => none

/-- What the two drivers see: the `Act` and `Read` events (R24, R91). -/
def driverEvents (tr : List Event) : List Event :=
  tr.filter fun e => match e with
    | .act _ | .read _ => true
    | .tx _ | .wake | .frame _ => false

/-- R72 `Response(c, v, i)`, with its literals. -/
def responseBytes (c : Byte) (v i : Reading) : List Byte :=
  if 0x01 ≤ c ∧ c ≤ 0x05 then [0x80, c, 0x01, 0x00, 0x00, 0x00, 0xFF]
  else if c = 0x06 ∨ c = 0x07 then
    [0x80, c, BitVec.ofNat 8 (v.toNat / 256), BitVec.ofNat 8 (v.toNat % 256),
      BitVec.ofNat 8 (i.toNat / 256), BitVec.ofNat 8 (i.toNat % 256), 0xFF]
  else [0x80, c, 0x00, 0x00, 0x00, 0x00, 0xFF]

/-- R72 `Events(c)`. -/
def responseEvents (c : Byte) : List Event :=
  if c = 0x02 then [.act .mainOn]
  else if c = 0x03 then [.act .mainOff]
  else if c = 0x04 then [.act .battOn]
  else if c = 0x05 then [.act .battOff]
  else if c = 0x06 then [.read .dcV, .read .dcI]
  else if c = 0x07 then [.read .battV, .read .battI]
  else []

/-- Reception or nothing: the only steps that can fall between two steps of the dispatcher and serializer without being
one of theirs (R30). -/
def Stimulus.isReception : Stimulus → Bool
  | .rx _ | .idle => true
  | .dispatch _ | .tx | .retire | .reset _ => false

/-- Everything but a received byte and reset: the steps that may fall between two `accept_byte` steps (R30). -/
def Stimulus.isService : Stimulus → Bool
  | .dispatch _ | .tx | .retire | .idle => true
  | .rx _ | .reset _ => false

/-- A `dispatch` step. -/
def Stimulus.isDispatch : Stimulus → Bool
  | .dispatch _ => true
  | .rx _ | .tx | .retire | .reset _ | .idle => false

/-- How many bytes of the response in flight have been handed over (R78). -/
def sentInFlight (s : State) : Nat :=
  match s.dphase with
  | .idle => 0
  | .send => s.txidx.val
  | .retire => 7

/-- The two states differ at most in registers no rule lets anything read: `cbuf[0]` and `cbuf[2]` (R70), `cbuf[1]`
unless a command is pending or about to be (R10), `rbuf` and `txidx` unless a response is being sent (R13, R15), and
the readings of an earlier dispatch. -/
structure SameVisible (s t : State) : Prop where
  /-- Same `cursor`. -/
  cursor : s.cursor = t.cursor
  /-- Same `pending`. -/
  pending : s.pending = t.pending
  /-- Same `dphase`. -/
  dphase : s.dphase = t.dphase
  /-- Same opcode, once it has been received. -/
  cmd : s.pending = true ∨ s.cursor = .pos2 → s.cbuf.cmd = t.cbuf.cmd
  /-- Same response, while it is being sent. -/
  rbuf : s.dphase = .send → s.rbuf = t.rbuf
  /-- Same index, while it is meaningful. -/
  txidx : s.dphase = .send → s.txidx = t.txidx
  /-- Same output so far. -/
  trace : s.trace = t.trace
  /-- Same script. -/
  stimuli : s.stimuli = t.stimuli
  /-- Same place in the free choices. -/
  choices : s.choices = t.choices
  /-- Same place in the free readings. -/
  draws : s.draws = t.draws

end Sys2Proof.Machine
end

