-- ==== Sys2Proof/Certificates/Slice0/Obligations.lean ====
section
/-! DEFINITION. The statements for the provers, from the numbered rules of spec/. A step that the environment offers is
written `step (s.offer st)`; the script of `s` is then what it was (spec/20_memory.md R30, spec/30_encoding.md R45). -/

open Sys2Proof Sys2Proof.Machine

/-! ## Encoding -/

/-- Decoding an encoded well-formed command gives it back, and leaves the bytes behind it alone (R36, R39, R43). -/
def Obligations.DecodeInvertsEncode : Prop :=
  ∀ (i : Instr) (rest : List Byte), i.wellFormed = true → decodeBytes (encode i ++ rest) = .ok (i, rest)

/-- Whatever decodes is the encoding of the command it decodes to: each frame has one meaning (R36, R39, R41). -/
def Obligations.EncodeInvertsDecode : Prop :=
  ∀ (bs rest : List Byte) (i : Instr), decodeBytes bs = .ok (i, rest) → bs = encode i ++ rest ∧ i.wellFormed = true

/-- R38: on every 24-bit word, read as `{sync, cmd, end}`, the decoder selects the row the match and mask columns
select, the default row last; and it refuses the words no row matches. -/
def Obligations.DecoderSelectsMatchMaskRow : Prop :=
  (∀ f : CommandFrame, frameOfWord 24 (f.sync ++ f.cmd ++ f.endMark).toNat = f) ∧
  ∀ w : BitVec 24, decodeTableWord 24 w.toNat = selectRow w

/-- R39, R41: the words of the opcode table, written out, decode to the commands they stand for (a sanity statement). -/
def Obligations.TableWordsDecode : Prop :=
  decodeTableWord 24 0x8001FF = some .ping ∧ decodeTableWord 24 0x8002FF = some .dcOn ∧
  decodeTableWord 24 0x8003FF = some .dcOff ∧ decodeTableWord 24 0x8004FF = some .battOn ∧
  decodeTableWord 24 0x8005FF = some .battOff ∧ decodeTableWord 24 0x8006FF = some .measDc ∧
  decodeTableWord 24 0x8007FF = some .measBatt ∧ decodeTableWord 24 0x8000FF = some (.unknown 0x00) ∧
  decodeTableWord 24 0x8008FF = some (.unknown 0x08) ∧ decodeTableWord 24 0x8080FF = some (.unknown 0x80) ∧
  decodeTableWord 24 0x80FFFF = some (.unknown 0xFF) ∧ decodeTableWord 24 0x8001FE = none ∧
  decodeTableWord 24 0x7F01FF = none

/-- R36, R42: three bytes are a command frame exactly when position 0 is 0x80 and position 2 is 0xFF, whatever the
opcode; fewer bytes never are (R43). -/
def Obligations.OnlyMarkersDecideFrameValidity : Prop :=
  (∀ (b0 b1 b2 : Byte) (rest : List Byte),
    (∃ i, decodeBytes (b0 :: b1 :: b2 :: rest) = .ok (i, rest)) ↔ b0 = 0x80 ∧ b2 = 0xFF) ∧
  ∀ bs : List Byte, bs.length < 3 → decodeBytes bs = .error .truncated

/-- R41: the unknown opcodes are 0x00 and 0x08 to 0xFF, 249 values. -/
def Obligations.UnknownOpcodesAreTheOther249 : Prop :=
  (∀ c : Byte, decodeOpcode c = .unknown c ↔ c = 0x00 ∨ 0x08 ≤ c) ∧
  ((List.range 256).filter fun n => decodeOpcode (BitVec.ofNat 8 n) = .unknown (BitVec.ofNat 8 n)).length = 249

/-! ## The Frame Reassembler -/

/-- R49: the sync marker opens a frame at cursor 0 when no command is pending; nothing else changes. -/
def Obligations.SyncByteOpensFrame : Prop :=
  ∀ s : State, s.cursor = .pos0 → s.pending = false →
    step (s.offer (.rx 0x80)) = .next { s with
      cbuf := { s.cbuf with sync := 0x80 }, cursor := .pos1, trace := s.trace ++ [.frame .continue_] }

/-- R50: at cursor 0 a byte that is not the sync marker, and any byte while a command is pending, is dropped. -/
def Obligations.ByteAtCursorZeroIsDropped : Prop :=
  ∀ (s : State) (b : Byte), s.cursor = .pos0 → s.pending = true ∨ b ≠ 0x80 →
    step (s.offer (.rx b)) = .next { s with trace := s.trace ++ [.frame .frameDiscarded] }

/-- R51: at cursor 1 every byte, the two markers among them, is stored as the opcode. -/
def Obligations.AnyByteIsStoredAsOpcode : Prop :=
  ∀ (s : State) (b : Byte), s.cursor = .pos1 →
    step (s.offer (.rx b)) = .next { s with
      cbuf := { s.cbuf with cmd := b }, cursor := .pos2, trace := s.trace ++ [.frame .continue_] }

/-- R52: the end marker at cursor 2 completes the frame: stored, pending, cursor 0, `FrameReady` and `Wake`, in one
step; and that is the only step that sets `pending` or emits `FrameReady`. -/
def Obligations.EndMarkerCompletesFrame : Prop :=
  (∀ s : State, s.cursor = .pos2 →
    step (s.offer (.rx 0xFF)) = .next { s with
      cbuf := { s.cbuf with endMark := 0xFF }, cursor := .pos0, pending := true,
      trace := s.trace ++ [.frame .frameReady, .wake] }) ∧
  ∀ (s t : State) (es : List Event), step s = .next t → t.trace = s.trace ++ es →
    (s.pending = false ∧ t.pending = true) ∨ Event.frame .frameReady ∈ es →
    (choose s).1 = .rx 0xFF ∧ s.cursor = .pos2

/-- R53: any other byte at cursor 2 abandons the frame; the byte is consumed and nothing is stored. -/
def Obligations.BadEndMarkerAbandonsFrame : Prop :=
  ∀ (s : State) (b : Byte), s.cursor = .pos2 → b ≠ 0xFF →
    step (s.offer (.rx b)) = .next { s with cursor := .pos0, trace := s.trace ++ [.frame .frameDiscarded] }

/-- R47: `accept_byte` is enabled in every state; its event, the next cursor, the next flag and what it does to `cbuf`
depend on the cursor, the flag and the byte only; it writes at most the cursor, the flag and `cbuf[cursor]`, and emits
one FrameEvent and no driver or transport call. -/
def Obligations.AcceptByteDependsOnCursorPendingAndByte : Prop :=
  ∀ (b : Byte) (s u : State), u.cursor = s.cursor → u.pending = s.pending →
    ∃ (cursor : Cursor) (pending : Bool) (store : CommandFrame → CommandFrame) (e : FrameEvent) (es : List Event),
      step (s.offer (.rx b)) = .next { s with
        cursor := cursor, pending := pending, cbuf := store s.cbuf, trace := s.trace ++ .frame e :: es } ∧
      step (u.offer (.rx b)) = .next { u with
        cursor := cursor, pending := pending, cbuf := store u.cbuf, trace := u.trace ++ .frame e :: es } ∧
      (es = [] ∨ es = [.wake]) ∧
      ((∀ f, store f = f) ∨ (s.cursor = .pos0 ∧ ∀ f, store f = { f with sync := b }) ∨
        (s.cursor = .pos1 ∧ ∀ f, store f = { f with cmd := b }) ∨
        (s.cursor = .pos2 ∧ ∀ f, store f = { f with endMark := b }))

/-- R55: whatever step is taken, the trace only grows, and it gains a `Wake` exactly when it gains a `FrameReady`, one
of each. -/
def Obligations.WakeExactlyOnFrameReady : Prop :=
  ∀ s t : State, step s = .next t → ∃ es : List Event, t.trace = s.trace ++ es ∧
    es.count .wake = es.count (.frame .frameReady) ∧ es.count .wake ≤ 1 ∧
    (Event.wake ∈ es → es = [.frame .frameReady, .wake])

/-- R56: of three consecutive `accept_byte` steps, with any other steps but reset between them, the third emits
`FrameReady` exactly when the bytes were 0x80, any, 0xFF and the first was taken at cursor 0 with nothing pending. -/
def Obligations.FrameReadyExactlyAfterSyncAnyEnd : Prop :=
  ∀ (s t : State) (b0 b1 b2 : Byte) (us vs : List Stimulus),
    (∀ st ∈ us, st.isService = true) → (∀ st ∈ vs, st.isService = true) →
    feed ([.rx b0] ++ us ++ [.rx b1] ++ vs ++ [.rx b2]) s = .next t →
      ((∃ tr, t.trace = tr ++ [.frame .frameReady, .wake]) ↔
        s.cursor = .pos0 ∧ s.pending = false ∧ b0 = 0x80 ∧ b2 = 0xFF)

/-- R57: the cursor changes in an `accept_byte` step (or at reset) and in no other: there is no timeout. -/
def Obligations.CursorMovesOnlyOnReceivedBytes : Prop :=
  ∀ s t : State, step s = .next t → t.cursor ≠ s.cursor →
    (∃ b, (choose s).1 = .rx b) ∨ ∃ lost, (choose s).1 = .reset lost

/-- R99: with no command pending, two bytes of 0x00 bring the cursor to 0 from any cursor value. -/
def Obligations.TwoZeroBytesRealign : Prop :=
  ∀ s : State, s.pending = false →
    ∃ t, feed [.rx 0x00, .rx 0x00] s = .next t ∧ t.cursor = .pos0 ∧ t.pending = false

/-- R34, R50, R82: while a command is pending, any number of received bytes is dropped, one `FrameDiscarded` each, and
nothing else changes. -/
def Obligations.PendingCommandDropsEveryByte : Prop :=
  ∀ (s : State) (bs : List Byte), s.cursor = .pos0 → s.pending = true →
    feed (bs.map .rx) s = .next { s with trace := s.trace ++ bs.map fun _ => .frame .frameDiscarded }

/-! ## The Command Dispatcher -/

/-- When the bytes in `cbuf` decode to `i`, a dispatch step is `exec i`, with the readings of the stimulus. -/
def Obligations.StepRunsDecodedInstruction : Prop :=
  ∀ (s : State) (i : Instr) (r : Option (Reading × Reading)), s.pending = true → s.dphase = .idle →
    decodeBytes s.cbuf.serialize = .ok (i, []) →
      step (s.offer (.dispatch r)) = exec i { s with measData := r }

/-- The word placed by `withFetchWord` is run by the very next step, for every well-formed command (log entry 5). -/
def Obligations.FetchWordRunsInstruction : Prop :=
  ∀ (s : State) (i : Instr), i.wellFormed = true →
    step (s.withFetchWord 24 (encodeWord i).toNat) = exec i { s with
      cursor := .pos0, cbuf := ⟨0x80, i.opcode, 0xFF⟩, pending := true, dphase := .idle, measData := none }

/-- R58, R72: an enabled dispatch step builds R72's response, logs R72's events, starts sending at index 0 and changes
neither `cursor` nor `cbuf` nor `pending`; it reads `cbuf[1]` only, so this holds for any two other bytes (R70). -/
def Obligations.DispatchBuildsResponse : Prop :=
  ∀ (s : State) (v i : Reading), s.pending = true → s.dphase = .idle →
    ∃ t, step (s.offer (.dispatch (some (v, i)))) = .next t ∧
      t.rbuf.serialize = responseBytes s.cbuf.cmd v i ∧
      t = { s with rbuf := t.rbuf, txidx := 0, dphase := .send, measData := some (v, i), draws := t.draws,
                   trace := s.trace ++ responseEvents s.cbuf.cmd }

/-- R60, PING: frame 80 01 FF; payload ACK; nothing outside `rbuf` changes but the start of sending. -/
def Obligations.PingAcknowledges : Prop :=
  decodeBytes [0x80, 0x01, 0xFF] = .ok (.ping, []) ∧
  ∀ s : State, ∃ t, exec .ping s = .next t ∧
    t.rbuf.serialize = [0x80, 0x01, 0x01, 0x00, 0x00, 0x00, 0xFF] ∧
    t = { s with rbuf := t.rbuf, txidx := 0, dphase := .send }

/-- R61, DC_ON: frame 80 02 FF; one `Act(MainOn)`, whatever happened before; payload ACK. -/
def Obligations.DcOnEnablesMainSupply : Prop :=
  decodeBytes [0x80, 0x02, 0xFF] = .ok (.dcOn, []) ∧
  ∀ s : State, ∃ t, exec .dcOn s = .next t ∧
    t.rbuf.serialize = [0x80, 0x02, 0x01, 0x00, 0x00, 0x00, 0xFF] ∧
    t = { s with rbuf := t.rbuf, txidx := 0, dphase := .send, trace := s.trace ++ [.act .mainOn] }

/-- R62, DC_OFF: frame 80 03 FF; one `Act(MainOff)`; payload ACK. -/
def Obligations.DcOffDisablesMainSupply : Prop :=
  decodeBytes [0x80, 0x03, 0xFF] = .ok (.dcOff, []) ∧
  ∀ s : State, ∃ t, exec .dcOff s = .next t ∧
    t.rbuf.serialize = [0x80, 0x03, 0x01, 0x00, 0x00, 0x00, 0xFF] ∧
    t = { s with rbuf := t.rbuf, txidx := 0, dphase := .send, trace := s.trace ++ [.act .mainOff] }

/-- R63, BATT_ON: frame 80 04 FF; one `Act(BattOn)`; payload ACK. -/
def Obligations.BattOnEnablesBatterySupply : Prop :=
  decodeBytes [0x80, 0x04, 0xFF] = .ok (.battOn, []) ∧
  ∀ s : State, ∃ t, exec .battOn s = .next t ∧
    t.rbuf.serialize = [0x80, 0x04, 0x01, 0x00, 0x00, 0x00, 0xFF] ∧
    t = { s with rbuf := t.rbuf, txidx := 0, dphase := .send, trace := s.trace ++ [.act .battOn] }

/-- R64, BATT_OFF: frame 80 05 FF; one `Act(BattOff)`; payload ACK. -/
def Obligations.BattOffDisablesBatterySupply : Prop :=
  decodeBytes [0x80, 0x05, 0xFF] = .ok (.battOff, []) ∧
  ∀ s : State, ∃ t, exec .battOff s = .next t ∧
    t.rbuf.serialize = [0x80, 0x05, 0x01, 0x00, 0x00, 0x00, 0xFF] ∧
    t = { s with rbuf := t.rbuf, txidx := 0, dphase := .send, trace := s.trace ++ [.act .battOff] }

/-- R65, MEAS_DC: frame 80 06 FF; the DC voltage then the DC current are read once each, and the payload is each
reading, high byte first; the readings are the environment's, or free values where it fixed none. -/
def Obligations.MeasDcReportsReadings : Prop :=
  decodeBytes [0x80, 0x06, 0xFF] = .ok (.measDc, []) ∧
  ∀ (s : State) (v i : Reading),
    s.measData = some (v, i) ∨
      s.measData = none ∧ v = Config.freeReading .dcV s.draws ∧ i = Config.freeReading .dcI (s.draws + 1) →
    ∃ t, exec .measDc s = .next t ∧
      t.rbuf.serialize = [0x80, 0x06, BitVec.ofNat 8 (v.toNat / 256), BitVec.ofNat 8 (v.toNat % 256),
        BitVec.ofNat 8 (i.toNat / 256), BitVec.ofNat 8 (i.toNat % 256), 0xFF] ∧
      t = { s with rbuf := t.rbuf, txidx := 0, dphase := .send, draws := s.draws + 2,
                   trace := s.trace ++ [.read .dcV, .read .dcI] }

/-- R66, MEAS_BATT: frame 80 07 FF; the battery voltage then the battery current, as MEAS_DC; the DC channels are not
read. -/
def Obligations.MeasBattReportsReadings : Prop :=
  decodeBytes [0x80, 0x07, 0xFF] = .ok (.measBatt, []) ∧
  ∀ (s : State) (v i : Reading),
    s.measData = some (v, i) ∨
      s.measData = none ∧ v = Config.freeReading .battV s.draws ∧ i = Config.freeReading .battI (s.draws + 1) →
    ∃ t, exec .measBatt s = .next t ∧
      t.rbuf.serialize = [0x80, 0x07, BitVec.ofNat 8 (v.toNat / 256), BitVec.ofNat 8 (v.toNat % 256),
        BitVec.ofNat 8 (i.toNat / 256), BitVec.ofNat 8 (i.toNat % 256), 0xFF] ∧
      t = { s with rbuf := t.rbuf, txidx := 0, dphase := .send, draws := s.draws + 2,
                   trace := s.trace ++ [.read .battV, .read .battI] }

/-- R67, UNKNOWN: every frame 80 `c` FF with `c` none of 0x01 to 0x07 is answered by the echo and four zero bytes, with
no driver event. -/
def Obligations.UnknownEchoesWithZeroPayload : Prop :=
  ∀ c : Byte, ¬(0x01 ≤ c ∧ c ≤ 0x07) → decodeBytes [0x80, c, 0xFF] = .ok (.unknown c, []) ∧
    ∀ s : State, ∃ t, exec (.unknown c) s = .next t ∧
      t.rbuf.serialize = [0x80, c, 0x00, 0x00, 0x00, 0x00, 0xFF] ∧
      t = { s with rbuf := t.rbuf, txidx := 0, dphase := .send }

/-- R37, R59: every command completes in every state, its response has both markers and the echo in place, and nothing
of an earlier response is in it: two states that draw the same readings build the same seven bytes. -/
def Obligations.EveryResponseIsFreshAndFramed : Prop :=
  ∀ (i : Instr) (s u : State), ∃ t v, exec i s = .next t ∧ exec i u = .next v ∧
    t.rbuf.sync = 0x80 ∧ t.rbuf.cmd = i.opcode ∧ t.rbuf.endMark = 0xFF ∧
    (s.measData = u.measData → s.draws = u.draws → t.rbuf = v.rbuf)

/-- R68 (a): a reading is split into its quotient and remainder by 256, and the two bytes are the reading again. -/
def Obligations.ReadingSplitsIntoTwoBytes : Prop :=
  ∀ r : Reading, (hiByte r).toNat = r.toNat / 256 ∧ (loByte r).toNat = r.toNat % 256 ∧ hiByte r ++ loByte r = r

/-- R29, R5, D16: the driver events of a step are those of R72 for the opcode in `cbuf[1]` if the step is a dispatch, and
none otherwise; and the bytes sent are the one byte at `txidx` if the step is a `tx_byte`, and none otherwise. So
nothing is sent, switched or read autonomously, and no repeat is filtered. -/
def Obligations.OnlyDispatchDrivesAndOnlyTxSends : Prop :=
  ∀ s t : State, step s = .next t →
    driverEvents t.trace = driverEvents s.trace ++
      (match (choose s).1 with
        | .dispatch _ => responseEvents s.cbuf.cmd
        | .rx _ | .tx | .retire | .reset _ | .idle => []) ∧
    wireBytes t.trace = wireBytes s.trace ++
      (match (choose s).1 with
        | .tx => [s.rbuf.get s.txidx]
        | .rx _ | .dispatch _ | .retire | .reset _ | .idle => [])

/-! ## The response serializer -/

/-- R74: before the last byte, `tx_byte` hands over `rbuf[txidx]` and advances the index by one. -/
def Obligations.TxSendsNextByte : Prop :=
  ∀ (s : State) (b : Byte), s.dphase = .send → s.txidx.val < 6 → s.rbuf.serialize[s.txidx.val]? = some b →
    ∃ t, step (s.offer .tx) = .next t ∧ t.txidx.val = s.txidx.val + 1 ∧
      t = { s with txidx := t.txidx, trace := s.trace ++ [.tx b] }

/-- R75: the last byte, 0xFF in every state that meets the invariant, ends sending; the index stays 6 and `pending` stays
as it is. -/
def Obligations.LastByteEndsSending : Prop :=
  ∀ s : State, s.dphase = .send → s.txidx.val = 6 →
    step (s.offer .tx) = .next { s with dphase := .retire, trace := s.trace ++ [.tx s.rbuf.endMark] } ∧
    (s.Inv → s.rbuf.endMark = 0xFF)

/-- R76: `retire` clears `pending` and returns to `Idle`, with cursor and buffers as they were; and it is the only step
that clears `pending`, reset apart (R94). -/
def Obligations.RetireReleasesCommand : Prop :=
  (∀ s : State, s.dphase = .retire → step (s.offer .retire) = .next { s with pending := false, dphase := .idle }) ∧
  ∀ s t : State, step s = .next t → (∀ lost, (choose s).1 ≠ .reset lost) → s.pending = true → t.pending = false →
    (choose s).1 = .retire ∧ s.dphase = .retire

/-- R73: from index 0 the seven `tx_byte` steps send the seven bytes of `rbuf` in order and write none of them. -/
def Obligations.SevenBytesAreSentInOrder : Prop :=
  ∀ s : State, s.dphase = .send → s.txidx = 0 →
    feed (List.replicate 7 .tx) s = .next { s with
      dphase := .retire, txidx := 6, trace := s.trace ++ s.rbuf.serialize.map .tx }

/-- R77: while the transport is not ready, whatever is received, the block stays in `Send` with everything unchanged but
the FrameEvents of the dropped bytes: nothing is sent and nothing is driven. -/
def Obligations.StalledTransportHoldsTheBlock : Prop :=
  ∀ (s : State) (sts : List Stimulus), s.Inv → s.dphase = .send → (∀ st ∈ sts, st.isReception = true) →
    ∃ t, feed sts s = .next t ∧ t = { s with trace := t.trace } ∧
      wireBytes t.trace = wireBytes s.trace ∧ driverEvents t.trace = driverEvents s.trace

/-- R79: the record and its bytes. -/
def Obligations.RecordsAndBytesAgree : Prop :=
  (∀ f : ResponseFrame, f.serialize.length = 7 ∧ ∀ i : Fin 7, f.serialize[i.val]? = some (f.get i)) ∧
  (∀ f : CommandFrame, CommandFrame.deserialize f.serialize = some f) ∧
  ∀ b0 b1 b2 : Byte, CommandFrame.deserialize [b0, b1, b2] = some ⟨b0, b1, b2⟩

/-! ## The machine as a whole -/

/-- R30, R45: the machine stops exactly where the script asks for a step that is not enabled, and says which; it raises
no fault (R80). -/
def Obligations.StopsExactlyOnDisabledScript : Prop :=
  ∀ (s : State) (q : Refusal), step s = .refused q ↔ ∃ st rest, s.stimuli = st :: rest ∧ q = .notEnabled st ∧
    ((∃ r, st = .dispatch r ∧ ¬(s.pending = true ∧ s.dphase = .idle)) ∨
      (st = .tx ∧ s.dphase ≠ .send) ∨ (st = .retire ∧ s.dphase ≠ .retire))

/-- R80, R47: left to the environment's free choices, and for every received byte, the machine always goes on. -/
def Obligations.ForwardProgress : Prop :=
  (∀ s : State, s.stimuli = [] → ∃ t, step s = .next t) ∧
  ∀ (s : State) (b : Byte), ∃ t, step (s.offer (.rx b)) = .next t

/-- R18 at reset. -/
def Obligations.ResetMeetsInvariant : Prop := State.reset.Inv

/-- R18: every step, from any state that meets the invariant, whatever the environment chooses, keeps it. -/
def Obligations.EveryStepKeepsInvariant : Prop :=
  ∀ s t : State, s.Inv → step s = .next t → t.Inv

/-- R22: the values the spec gives for reset. -/
def Obligations.ResetStateIsIdle : Prop :=
  State.reset.cursor = .pos0 ∧ State.reset.pending = false ∧ State.reset.dphase = .idle ∧ State.reset.txidx = 0 ∧
    State.reset.trace = []

/-- R94, R95: from any state, reset gives the reset values, with no output event, and the bytes offered meanwhile leave
no mark. -/
def Obligations.ResetDropsWorkInProgress : Prop :=
  ∀ (s : State) (lost : List Byte), ∃ t, step (s.offer (.reset lost)) = .next t ∧
    step (s.offer (.reset [])) = .next t ∧ t.cursor = .pos0 ∧ t.pending = false ∧ t.dphase = .idle ∧ t.txidx = 0 ∧
    t.trace = s.trace

/-- R14: the phase moves `Idle` to `Send` by dispatch, `Send` to `Retire` by the last `tx_byte`, `Retire` to `Idle` by
retire, and in no other way but reset. -/
def Obligations.PhaseMovesInOneCycle : Prop :=
  ∀ s t : State, step s = .next t → t.dphase ≠ s.dphase →
    (s.dphase = .idle ∧ t.dphase = .send ∧ ∃ r, (choose s).1 = .dispatch r) ∨
    (s.dphase = .send ∧ t.dphase = .retire ∧ s.txidx = 6 ∧ (choose s).1 = .tx) ∨
    (s.dphase = .retire ∧ t.dphase = .idle ∧ (choose s).1 = .retire) ∨
    ∃ lost, (choose s).1 = .reset lost

/-- R19: each piece of state is written by its owner only. -/
def Obligations.StateIsWrittenByItsOwner : Prop :=
  ∀ s t : State, step s = .next t → (∀ lost, (choose s).1 ≠ .reset lost) →
    ((∀ b, (choose s).1 ≠ .rx b) → t.cursor = s.cursor ∧ t.cbuf = s.cbuf ∧ (s.pending = false → t.pending = false)) ∧
    ((∃ b, (choose s).1 = .rx b) → t.rbuf = s.rbuf ∧ t.dphase = s.dphase ∧ t.txidx = s.txidx ∧
      (s.pending = true → t.pending = true)) ∧
    ((∀ r, (choose s).1 ≠ .dispatch r) → t.rbuf = s.rbuf)

/-- R34: while a command is pending no step, reset apart, writes `cbuf` or moves the cursor. -/
def Obligations.CommandIsStableWhilePending : Prop :=
  ∀ s t : State, s.Inv → s.pending = true → step s = .next t → (∀ lost, (choose s).1 ≠ .reset lost) →
    t.cbuf = s.cbuf ∧ s.cursor = .pos0 ∧ t.cursor = .pos0

/-- R86 (a): a received byte and a `dispatch` or `tx_byte` step give the same state in either order, up to the place of
the byte's FrameEvent in the trace. -/
def Obligations.ByteCommutesWithDispatchAndTx : Prop :=
  ∀ (s : State) (b : Byte) (st : Stimulus), s.Inv → (∃ r, st = .dispatch r) ∨ st = .tx → enabled s st = true →
    ∃ t u, feed [.rx b, st] s = .next t ∧ feed [st, .rx b] s = .next u ∧
      { t with trace := [] } = { u with trace := [] } ∧
      wireBytes t.trace = wireBytes u.trace ∧ driverEvents t.trace = driverEvents u.trace

/-- R86 (b): a 0x80 that comes before `retire` is dropped, and one that comes after it starts a frame; both orders are
runs of the machine. -/
def Obligations.SyncByteAroundRetireGoesBothWays : Prop :=
  ∀ s : State, s.Inv → s.dphase = .retire →
    feed [.rx 0x80, .retire] s = .next { s with
      pending := false, dphase := .idle, trace := s.trace ++ [.frame .frameDiscarded] } ∧
    feed [.retire, .rx 0x80] s = .next { s with
      pending := false, dphase := .idle, cursor := .pos1, cbuf := { s.cbuf with sync := 0x80 },
      trace := s.trace ++ [.frame .continue_] }

/-- R98 (vector RA11): a second frame 80 80 FF that straddles `retire` leaves the reassembler at cursor 2 with opcode
0xFF, and a 0xFF then makes a command that nobody sent pending. -/
def Obligations.StraddlingFrameDesynchronises : Prop :=
  ∀ s : State, s.Inv → s.dphase = .retire →
    ∃ t u, feed [.rx 0x80, .retire, .rx 0x80, .rx 0xFF] s = .next t ∧ t.cursor = .pos2 ∧ t.pending = false ∧
      step (t.offer (.rx 0xFF)) = .next u ∧ u.pending = true ∧ u.cbuf = ⟨0x80, 0xFF, 0xFF⟩

/-- R10, R13, R15, R22, R70: what the buffers hold when no rule lets anything read them (after reset, after a discard,
after retire), and the two marker bytes of `cbuf` at any time, never matters: two states that differ only there take
the same steps, stop alike, and stay alike, outputs included. -/
def Obligations.UnreadRegistersNeverMatter : Prop :=
  ∀ s t : State, SameVisible s t →
    (∀ s', step s = .next s' → ∃ t', step t = .next t' ∧ SameVisible s' t') ∧
    ∀ q, step s = .refused q ↔ step t = .refused q

/-- R32, R33, R34, R72, R73, R76: a host's command, from idle, is served whole: whatever is received in between, the device
events are those of R72, the seven response bytes go out in order, and the block is idle again with nothing pending. -/
def Obligations.CommandIsServedWhole : Prop :=
  ∀ (s : State) (c : Byte) (v i : Reading) (sts : List Stimulus),
    s.cursor = .pos0 → s.pending = false → s.dphase = .idle →
    sts.filter (fun st => !st.isReception) = .dispatch (some (v, i)) :: List.replicate 7 .tx →
    ∃ t, feed ([.rx 0x80, .rx c, .rx 0xFF] ++ sts ++ [.retire]) s = .next t ∧
      wireBytes t.trace = wireBytes s.trace ++ responseBytes c v i ∧
      driverEvents t.trace = driverEvents s.trace ++ responseEvents c ∧
      t.cursor = .pos0 ∧ t.pending = false ∧ t.dphase = .idle ∧ t.cbuf = ⟨0x80, c, 0xFF⟩

/-- R78: between two resets the bytes sent are whole 7-byte frames with both markers in place, cut only at the response
in flight: 7 bytes per `retire`, and those of the response in flight handed over so far. -/
def Obligations.SentBytesAreWholeFrames : Prop :=
  ∀ (s t : State) (sts : List Stimulus), s.dphase = .idle →
    (∀ lost, Stimulus.reset lost ∉ sts) → feed sts s = .next t →
    ∃ (frames : List ResponseFrame) (out : List Byte), wireBytes t.trace = wireBytes s.trace ++ out ∧
      (∀ f ∈ frames, f.sync = 0x80 ∧ f.endMark = 0xFF) ∧
      out = (frames.flatMap ResponseFrame.serialize).take out.length ∧
      out.length = 7 * sts.count .retire + sentInFlight t ∧
      frames.length = sts.count .retire + (if t.dphase = .idle then 0 else 1)

/-- R58: `dispatch` runs "exactly once per `FrameReady` event": between two resets, the frames made ready since nothing
was pending are those dispatched, and one more while a command is pending and not yet claimed. -/
def Obligations.ExactlyOneDispatchPerFrameReady : Prop :=
  ∀ (s t : State) (sts : List Stimulus), s.Inv → s.pending = false →
    (∀ lost, Stimulus.reset lost ∉ sts) → feed sts s = .next t →
    t.trace.count (.frame .frameReady) = s.trace.count (.frame .frameReady) + sts.countP Stimulus.isDispatch +
      (if t.pending = true ∧ t.dphase = .idle then 1 else 0)

/-! ## The spec's parameters, and the ports -/

/-- D5: a host that waits for its response (R97) cannot tell the two values of `CLEAR_POINT` apart; the machine itself
is `after_tx`. -/
def Obligations.WaitingHostCannotSeeClearPoint : Prop :=
  ∀ (s : State) (r : Option (Reading × Reading)), s.pending = true → s.dphase = .idle →
    ∃ t, feed (serveStimuli r) s = .next t ∧ feedWith .beforeTx (serveStimuli r) s = .next t

/-- D10: `MEAS_ORDER` decides the order of the two `Read` events and nothing else, where the environment fixes the
readings. -/
def Obligations.MeasOrderOnlyReordersReads : Prop :=
  ∀ (s : State) (c : Byte) (vch ich : Channel) (vi : Reading × Reading), s.measData = some vi →
    { respondMeasured .currentFirst c vch ich s with trace := [] } = { respondMeasured .voltageFirst c vch ich s with trace := [] } ∧
    (respondMeasured .voltageFirst c vch ich s).trace = s.trace ++ [.read vch, .read ich] ∧
    (respondMeasured .currentFirst c vch ich s).trace = s.trace ++ [.read ich, .read vch]

/-- R46 gives the FrameEvent codes 0, 1, 2 and never 3; R25 gives the channel codes 0 to 3. That at most one of the four
action lines is high in any EVENT is the model's reading of R25's "in a cycle" (DEDUCED, log entry 15). -/
def Obligations.PortCodesFollowTheSpec : Prop :=
  FrameEvent.continue_.code = 0 ∧ FrameEvent.frameReady.code = 1 ∧ FrameEvent.frameDiscarded.code = 2 ∧
  (∀ e : FrameEvent, e.code ≠ 3) ∧
  Channel.dcV.code = 0 ∧ Channel.dcI.code = 1 ∧ Channel.battV.code = 2 ∧ Channel.battI.code = 3 ∧
  ∀ e : Event, e.pulses.actCount ≤ 1

/-- R25: after a step, the byte on `tx_data` while `tx_valid` is high is the byte the next `tx_byte` step hands over, and
it is held steady while none is taken. -/
def Obligations.TxDataIsTheByteHandedOver : Prop :=
  ∀ s : State, (levels s).txValid = true →
    ∃ t, step (s.offer .tx) = .next t ∧ t.trace = s.trace ++ [.tx (levels s).txData] ∧
      ∀ (b : Byte) (u : State), step (s.offer (.rx b)) = .next u →
        (levels u).txValid = true ∧ (levels u).txData = (levels s).txData

/-- R25, R46, R55: the port cycles of a step (log entry 15 for what shares a cycle, DEDUCED). An `accept_byte` step is one
cycle, `evt` its FrameEvent's code and `wake` high exactly when that is `FrameReady`; a dispatch pulses R72's calls, one
a cycle; no other step pulses; and no cycle has two action lines high. -/
def Obligations.StepCyclesFollowThePorts : Prop :=
  ∀ s t : State, step s = .next t →
    (∀ b, (choose s).1 = .rx b → ∃ e es, t.trace = s.trace ++ .frame e :: es ∧
      stepCycles s t = [{ Pulses.quiet with evt := some e.code, wake := e == .frameReady }]) ∧
    (∀ r, (choose s).1 = .dispatch r → stepCycles s t = (responseEvents s.cbuf.cmd).map Event.pulses) ∧
    ((∀ b, (choose s).1 ≠ .rx b) → (∀ r, (choose s).1 ≠ .dispatch r) → ∀ p ∈ stepCycles s t, p = Pulses.quiet) ∧
    ∀ p ∈ stepCycles s t, p.actCount ≤ 1
end

