-- ==== Sys2Proof/Laws/Decode.lean ====
section
/-! SUPPORT. What the decoder and the encoder do, once: later proofs cite these instead of unfolding them. -/

namespace Sys2Proof

/-- Every opcode value decodes to the command that has it as its opcode. -/
theorem opcode_decodeOpcode (c : Byte) : (decodeOpcode c).opcode = c := by
  unfold decodeOpcode
  repeat' split
  all_goals first | rfl | (symm; assumption)

/-- The dispatcher's selection yields well-formed commands only. -/
theorem wellFormed_decodeOpcode (c : Byte) : (decodeOpcode c).wellFormed = true := by
  unfold decodeOpcode
  repeat' split
  all_goals first | rfl | simp_all [Instr.wellFormed, Config.opcodes]

/-- On the opcode byte the decoder inverts the encoder. -/
theorem decodeOpcode_opcode {i : Instr} (h : i.wellFormed = true) : decodeOpcode i.opcode = i := by
  cases i with
  | unknown c =>
    simp only [Instr.wellFormed, Config.opcodes, List.contains_eq_mem, List.mem_cons, List.not_mem_nil, or_false,
      Bool.not_eq_true', decide_eq_false_iff_not, not_or] at h
    simp [decodeOpcode, Instr.opcode, h]
  | ping | dcOn | dcOff | battOn | battOff | measDc | measBatt => decide

/-- Three bytes are a command frame exactly when both markers are in place. -/
theorem decodeBytes_ok_iff {b0 b1 b2 : Byte} {rest rest' : List Byte} {i : Instr} :
    decodeBytes (b0 :: b1 :: b2 :: rest) = .ok (i, rest') ↔
      b0 = Config.sync ∧ b2 = Config.endMark ∧ i = decodeOpcode b1 ∧ rest' = rest := by
  by_cases h0 : b0 = Config.sync <;> by_cases h2 : b2 = Config.endMark <;> simp [decodeBytes, h0, h2, eq_comm]

end Sys2Proof
end

