-- ==== Sys2Proof/Laws/State.lean ====
section
/-! SUPPORT. One lemma per field and named update of State, true by rfl, so that no later proof unfolds an update. -/

namespace Sys2Proof.Machine

@[simp] theorem emit_cursor (e : Event) (s : State) : (emit e s).cursor = s.cursor := rfl
@[simp] theorem emit_cbuf (e : Event) (s : State) : (emit e s).cbuf = s.cbuf := rfl
@[simp] theorem emit_pending (e : Event) (s : State) : (emit e s).pending = s.pending := rfl
@[simp] theorem emit_rbuf (e : Event) (s : State) : (emit e s).rbuf = s.rbuf := rfl
@[simp] theorem emit_dphase (e : Event) (s : State) : (emit e s).dphase = s.dphase := rfl
@[simp] theorem emit_txidx (e : Event) (s : State) : (emit e s).txidx = s.txidx := rfl
@[simp] theorem emit_trace (e : Event) (s : State) : (emit e s).trace = s.trace ++ [e] := rfl
@[simp] theorem emit_stimuli (e : Event) (s : State) : (emit e s).stimuli = s.stimuli := rfl
@[simp] theorem emit_measData (e : Event) (s : State) : (emit e s).measData = s.measData := rfl
@[simp] theorem emit_choices (e : Event) (s : State) : (emit e s).choices = s.choices := rfl
@[simp] theorem emit_draws (e : Event) (s : State) : (emit e s).draws = s.draws := rfl

@[simp] theorem act_cursor (a : PowerAction) (s : State) : (act a s).cursor = s.cursor := rfl
@[simp] theorem act_cbuf (a : PowerAction) (s : State) : (act a s).cbuf = s.cbuf := rfl
@[simp] theorem act_pending (a : PowerAction) (s : State) : (act a s).pending = s.pending := rfl
@[simp] theorem act_rbuf (a : PowerAction) (s : State) : (act a s).rbuf = s.rbuf := rfl
@[simp] theorem act_dphase (a : PowerAction) (s : State) : (act a s).dphase = s.dphase := rfl
@[simp] theorem act_txidx (a : PowerAction) (s : State) : (act a s).txidx = s.txidx := rfl
@[simp] theorem act_trace (a : PowerAction) (s : State) : (act a s).trace = s.trace ++ [.act a] := rfl
@[simp] theorem act_stimuli (a : PowerAction) (s : State) : (act a s).stimuli = s.stimuli := rfl
@[simp] theorem act_measData (a : PowerAction) (s : State) : (act a s).measData = s.measData := rfl
@[simp] theorem act_choices (a : PowerAction) (s : State) : (act a s).choices = s.choices := rfl
@[simp] theorem act_draws (a : PowerAction) (s : State) : (act a s).draws = s.draws := rfl

@[simp] theorem drvRead_cursor (c : Channel) (s : State) : (drvRead c s).2.cursor = s.cursor := rfl
@[simp] theorem drvRead_cbuf (c : Channel) (s : State) : (drvRead c s).2.cbuf = s.cbuf := rfl
@[simp] theorem drvRead_pending (c : Channel) (s : State) : (drvRead c s).2.pending = s.pending := rfl
@[simp] theorem drvRead_rbuf (c : Channel) (s : State) : (drvRead c s).2.rbuf = s.rbuf := rfl
@[simp] theorem drvRead_dphase (c : Channel) (s : State) : (drvRead c s).2.dphase = s.dphase := rfl
@[simp] theorem drvRead_txidx (c : Channel) (s : State) : (drvRead c s).2.txidx = s.txidx := rfl
@[simp] theorem drvRead_trace (c : Channel) (s : State) : (drvRead c s).2.trace = s.trace ++ [.read c] := rfl
@[simp] theorem drvRead_stimuli (c : Channel) (s : State) : (drvRead c s).2.stimuli = s.stimuli := rfl
@[simp] theorem drvRead_measData (c : Channel) (s : State) : (drvRead c s).2.measData = s.measData := rfl
@[simp] theorem drvRead_choices (c : Channel) (s : State) : (drvRead c s).2.choices = s.choices := rfl
@[simp] theorem drvRead_draws (c : Channel) (s : State) : (drvRead c s).2.draws = s.draws + 1 := rfl

@[simp] theorem respond_cursor (c : Byte) (p : Payload) (s : State) : (respond c p s).cursor = s.cursor := rfl
@[simp] theorem respond_cbuf (c : Byte) (p : Payload) (s : State) : (respond c p s).cbuf = s.cbuf := rfl
@[simp] theorem respond_pending (c : Byte) (p : Payload) (s : State) : (respond c p s).pending = s.pending := rfl
@[simp] theorem respond_rbuf (c : Byte) (p : Payload) (s : State) : (respond c p s).rbuf = buildResponse c p := rfl
@[simp] theorem respond_dphase (c : Byte) (p : Payload) (s : State) : (respond c p s).dphase = .send := rfl
@[simp] theorem respond_txidx (c : Byte) (p : Payload) (s : State) : (respond c p s).txidx = 0 := rfl
@[simp] theorem respond_trace (c : Byte) (p : Payload) (s : State) : (respond c p s).trace = s.trace := rfl
@[simp] theorem respond_stimuli (c : Byte) (p : Payload) (s : State) : (respond c p s).stimuli = s.stimuli := rfl
@[simp] theorem respond_measData (c : Byte) (p : Payload) (s : State) : (respond c p s).measData = s.measData := rfl
@[simp] theorem respond_choices (c : Byte) (p : Payload) (s : State) : (respond c p s).choices = s.choices := rfl
@[simp] theorem respond_draws (c : Byte) (p : Payload) (s : State) : (respond c p s).draws = s.draws := rfl

@[simp] theorem setPending_cursor (s : State) : (setPending s).cursor = s.cursor := rfl
@[simp] theorem setPending_cbuf (s : State) : (setPending s).cbuf = s.cbuf := rfl
@[simp] theorem setPending_pending (s : State) : (setPending s).pending = true := rfl
@[simp] theorem setPending_rbuf (s : State) : (setPending s).rbuf = s.rbuf := rfl
@[simp] theorem setPending_dphase (s : State) : (setPending s).dphase = s.dphase := rfl
@[simp] theorem setPending_txidx (s : State) : (setPending s).txidx = s.txidx := rfl
@[simp] theorem setPending_trace (s : State) : (setPending s).trace = s.trace := rfl
@[simp] theorem setPending_stimuli (s : State) : (setPending s).stimuli = s.stimuli := rfl
@[simp] theorem setPending_measData (s : State) : (setPending s).measData = s.measData := rfl
@[simp] theorem setPending_choices (s : State) : (setPending s).choices = s.choices := rfl
@[simp] theorem setPending_draws (s : State) : (setPending s).draws = s.draws := rfl

@[simp] theorem clearPending_cursor (s : State) : (clearPending s).cursor = s.cursor := rfl
@[simp] theorem clearPending_cbuf (s : State) : (clearPending s).cbuf = s.cbuf := rfl
@[simp] theorem clearPending_pending (s : State) : (clearPending s).pending = false := rfl
@[simp] theorem clearPending_rbuf (s : State) : (clearPending s).rbuf = s.rbuf := rfl
@[simp] theorem clearPending_dphase (s : State) : (clearPending s).dphase = s.dphase := rfl
@[simp] theorem clearPending_txidx (s : State) : (clearPending s).txidx = s.txidx := rfl
@[simp] theorem clearPending_trace (s : State) : (clearPending s).trace = s.trace := rfl
@[simp] theorem clearPending_stimuli (s : State) : (clearPending s).stimuli = s.stimuli := rfl
@[simp] theorem clearPending_measData (s : State) : (clearPending s).measData = s.measData := rfl
@[simp] theorem clearPending_choices (s : State) : (clearPending s).choices = s.choices := rfl
@[simp] theorem clearPending_draws (s : State) : (clearPending s).draws = s.draws := rfl

@[simp] theorem offer_cursor (s : State) (st : Stimulus) : (s.offer st).cursor = s.cursor := rfl
@[simp] theorem offer_cbuf (s : State) (st : Stimulus) : (s.offer st).cbuf = s.cbuf := rfl
@[simp] theorem offer_pending (s : State) (st : Stimulus) : (s.offer st).pending = s.pending := rfl
@[simp] theorem offer_rbuf (s : State) (st : Stimulus) : (s.offer st).rbuf = s.rbuf := rfl
@[simp] theorem offer_dphase (s : State) (st : Stimulus) : (s.offer st).dphase = s.dphase := rfl
@[simp] theorem offer_txidx (s : State) (st : Stimulus) : (s.offer st).txidx = s.txidx := rfl
@[simp] theorem offer_trace (s : State) (st : Stimulus) : (s.offer st).trace = s.trace := rfl
@[simp] theorem offer_stimuli (s : State) (st : Stimulus) : (s.offer st).stimuli = st :: s.stimuli := rfl
@[simp] theorem offer_measData (s : State) (st : Stimulus) : (s.offer st).measData = s.measData := rfl
@[simp] theorem offer_choices (s : State) (st : Stimulus) : (s.offer st).choices = s.choices := rfl
@[simp] theorem offer_draws (s : State) (st : Stimulus) : (s.offer st).draws = s.draws := rfl

@[simp] theorem applyReset_cursor (l : List Byte) (s : State) : (applyReset l s).cursor = .pos0 := rfl
@[simp] theorem applyReset_cbuf (l : List Byte) (s : State) : (applyReset l s).cbuf = ⟨0, 0, 0⟩ := rfl
@[simp] theorem applyReset_pending (l : List Byte) (s : State) : (applyReset l s).pending = false := rfl
@[simp] theorem applyReset_rbuf (l : List Byte) (s : State) : (applyReset l s).rbuf = ⟨0, 0, ⟨0, 0, 0, 0⟩, 0⟩ := rfl
@[simp] theorem applyReset_dphase (l : List Byte) (s : State) : (applyReset l s).dphase = .idle := rfl
@[simp] theorem applyReset_txidx (l : List Byte) (s : State) : (applyReset l s).txidx = 0 := rfl
@[simp] theorem applyReset_trace (l : List Byte) (s : State) : (applyReset l s).trace = s.trace := rfl
@[simp] theorem applyReset_stimuli (l : List Byte) (s : State) : (applyReset l s).stimuli = s.stimuli := rfl
@[simp] theorem applyReset_measData (l : List Byte) (s : State) : (applyReset l s).measData = none := rfl
@[simp] theorem applyReset_choices (l : List Byte) (s : State) : (applyReset l s).choices = s.choices := rfl
@[simp] theorem applyReset_draws (l : List Byte) (s : State) : (applyReset l s).draws = s.draws := rfl

@[simp] theorem withFetchWord_cursor (s : State) (n w : Nat) : (s.withFetchWord n w).cursor = .pos0 := rfl
@[simp] theorem withFetchWord_cbuf (s : State) (n w : Nat) : (s.withFetchWord n w).cbuf = frameOfWord n w := rfl
@[simp] theorem withFetchWord_pending (s : State) (n w : Nat) : (s.withFetchWord n w).pending = true := rfl
@[simp] theorem withFetchWord_rbuf (s : State) (n w : Nat) : (s.withFetchWord n w).rbuf = s.rbuf := rfl
@[simp] theorem withFetchWord_dphase (s : State) (n w : Nat) : (s.withFetchWord n w).dphase = .idle := rfl
@[simp] theorem withFetchWord_txidx (s : State) (n w : Nat) : (s.withFetchWord n w).txidx = s.txidx := rfl
@[simp] theorem withFetchWord_trace (s : State) (n w : Nat) : (s.withFetchWord n w).trace = s.trace := rfl
@[simp] theorem withFetchWord_stimuli (s : State) (n w : Nat) : (s.withFetchWord n w).stimuli = .dispatch none :: s.stimuli := rfl
@[simp] theorem withFetchWord_measData (s : State) (n w : Nat) : (s.withFetchWord n w).measData = s.measData := rfl
@[simp] theorem withFetchWord_choices (s : State) (n w : Nat) : (s.withFetchWord n w).choices = s.choices := rfl
@[simp] theorem withFetchWord_draws (s : State) (n w : Nat) : (s.withFetchWord n w).draws = s.draws := rfl

@[simp] theorem drvRead_fst (c : Channel) (s : State) : (drvRead c s).1 = nextReading c s := rfl

end Sys2Proof.Machine
end

