-- ==== Sys2Proof/Laws/Ops.lean ====
section
/-! SUPPORT. One lemma per shared operation and per step, saying everything it can do. -/

namespace Sys2Proof.Machine

/-! ## Meanings -/

/-- The payload each command builds (R40), with the readings it draws in the state it runs in. -/
def payloadOf (i : Instr) (s : State) : Payload :=
  match i with
  | .ping | .dcOn | .dcOff | .battOn | .battOff => .ack
  | .measDc => .meas (nextReading .dcV s) (nextReading .dcI { s with draws := s.draws + 1 })
  | .measBatt => .meas (nextReading .battV s) (nextReading .battI { s with draws := s.draws + 1 })
  | .unknown _ => .zero

/-- The driver events of each command, in order (R72). -/
def eventsOf : Instr → List Event
  | .ping | .unknown _ => []
  | .dcOn => [.act .mainOn]
  | .dcOff => [.act .mainOff]
  | .battOn => [.act .battOn]
  | .battOff => [.act .battOff]
  | .measDc => [.read .dcV, .read .dcI]
  | .measBatt => [.read .battV, .read .battI]

/-- How many readings each command draws. -/
def drawsOf : Instr → Nat
  | .measDc | .measBatt => 2
  | .ping | .dcOn | .dcOff | .battOn | .battOff | .unknown _ => 0

/-- Everything a command does: it always completes, with this state. -/
theorem exec_eq (i : Instr) (s : State) : exec i s = .next
    { s with
      rbuf := buildResponse i.opcode (payloadOf i s)
      txidx := 0
      dphase := .send
      trace := s.trace ++ eventsOf i
      draws := s.draws + drawsOf i } := by
  cases i <;>
    simp [exec, execPing, execUnknown, execDcOn, execDcOff, execBattOn, execBattOff, execMeasDc, execMeasBatt, respondMeasured,
      Config.measOrder, respond, act, emit, drvRead, nextReading, eventsOf, drawsOf, payloadOf, Instr.opcode]

/-! ## Received bytes -/

/-- Everything `accept_byte` can do: one of R48's cases, with its event. -/
theorem acceptByte_cases (b : Byte) (s : State) :
    (s.cursor = .pos0 ∧ s.pending = false ∧ b = Config.sync ∧ acceptByte b s =
      ({ s with cbuf := { s.cbuf with sync := b }, cursor := .pos1, trace := s.trace ++ [.frame .continue_] }, .continue_)) ∨
    (s.cursor = .pos0 ∧ (s.pending = true ∨ b ≠ Config.sync) ∧ acceptByte b s =
      ({ s with trace := s.trace ++ [.frame .frameDiscarded] }, .frameDiscarded)) ∨
    (s.cursor = .pos1 ∧ acceptByte b s =
      ({ s with cbuf := { s.cbuf with cmd := b }, cursor := .pos2, trace := s.trace ++ [.frame .continue_] }, .continue_)) ∨
    (s.cursor = .pos2 ∧ b = Config.endMark ∧ acceptByte b s =
      ({ s with cbuf := { s.cbuf with endMark := b }, cursor := .pos0, pending := true,
                trace := s.trace ++ [.frame .frameReady, .wake] }, .frameReady)) ∨
    (s.cursor = .pos2 ∧ b ≠ Config.endMark ∧ acceptByte b s =
      ({ s with cursor := .pos0, trace := s.trace ++ [.frame .frameDiscarded] }, .frameDiscarded)) := by
  have key : ∀ x, acceptByte x s = (emitFrameEvent (classify s.cursor s.pending x).event
      (storeByte (classify s.cursor s.pending x) x s), (classify s.cursor s.pending x).event) := fun _ => rfl
  cases hc : s.cursor with
  | pos0 =>
    cases hp : s.pending with
    | true => simp [key, hc, hp, classify, ByteClass.event, storeByte, emitFrameEvent, emit]
    | false =>
      by_cases hb : b = Config.sync <;>
        simp [key, hc, hp, hb, classify, ByteClass.event, storeByte, emitFrameEvent, emit]
  | pos1 => simp [key, hc, classify, ByteClass.event, storeByte, emitFrameEvent, emit]
  | pos2 =>
    by_cases hb : b = Config.endMark <;>
      simp [key, hc, hb, classify, ByteClass.event, storeByte, emitFrameEvent, emit, setPending]

/-! ## The serializer -/

/-- Everything `tx_byte` can do. -/
theorem txByte_cases (s : State) :
    (s.txidx.val < 6 ∧ txByte s =
      { s with txidx := s.txidx + 1, trace := s.trace ++ [.tx (s.rbuf.get s.txidx)] }) ∨
    (s.txidx = 6 ∧ txByte s = { s with dphase := .retire, trace := s.trace ++ [.tx (s.rbuf.get s.txidx)] }) := by
  by_cases h : s.txidx.val < 6
  · exact .inl ⟨h, by simp [txByte, h, emit]⟩
  · exact .inr ⟨by omega, by simp [txByte, h, emit]⟩

/-- What `retire` does in the machine as it is. -/
theorem retire_afterTx (s : State) : retire .afterTx s = { s with pending := false, dphase := .idle } := rfl

/-! ## Steps -/

/-- A dispatch under either value of `CLEAR_POINT` completes with the claimed command's state. -/
theorem dispatchStep_eq (cp : Config.ClearPoint) (r : Option (Reading × Reading)) (s : State) :
    dispatchStep cp r s = .next (claim cp
      { s with
        measData := r
        rbuf := buildResponse s.cbuf.cmd (payloadOf (decodeOpcode s.cbuf.cmd) { s with measData := r })
        txidx := 0
        dphase := .send
        trace := s.trace ++ eventsOf (decodeOpcode s.cbuf.cmd)
        draws := s.draws + drawsOf (decodeOpcode s.cbuf.cmd) }) := by
  simp [dispatchStep, exec_eq, opcode_decodeOpcode]

/-- What each step does to the state once it is taken (`CLEAR_POINT` as in the machine). -/
def taken (st : Stimulus) (s : State) : State :=
  match st with
  | .rx b => (acceptByte b s).1
  | .dispatch r =>
    { s with
      measData := r
      rbuf := buildResponse s.cbuf.cmd (payloadOf (decodeOpcode s.cbuf.cmd) { s with measData := r })
      txidx := 0
      dphase := .send
      trace := s.trace ++ eventsOf (decodeOpcode s.cbuf.cmd)
      draws := s.draws + drawsOf (decodeOpcode s.cbuf.cmd) }
  | .tx => txByte s
  | .retire => { s with pending := false, dphase := .idle }
  | .reset l => applyReset l s
  | .idle => s

/-- An enabled step always completes. -/
theorem take_eq (st : Stimulus) (s : State) : take .afterTx st s = .next (taken st s) := by
  cases st <;> first | rfl | exact dispatchStep_eq _ _ _

/-- One step, in one equation: the environment's choice, taken or refused. -/
theorem step_eq (s : State) : step s =
    if enabled s (choose s).1 then .next (taken (choose s).1 (choose s).2) else .refused (.notEnabled (choose s).1) := by
  simp only [step, stepWith, Config.clearPoint, take_eq]

/-- Enabling does not look at the environment's fields. -/
theorem enabled_offer (s : State) (st u : Stimulus) : enabled (s.offer st) u = enabled s u := by
  cases u <;> rfl

/-- The environment's very next choice is the one offered, and the script is then what it was. -/
theorem choose_offer (s : State) (st : Stimulus) : choose (s.offer st) = (st, s) := rfl

/-- One offered step. -/
theorem step_offer (s : State) (st : Stimulus) :
    step (s.offer st) = if enabled s st then .next (taken st s) else .refused (.notEnabled st) := by
  rw [step_eq, choose_offer, enabled_offer]

/-- A free choice is enabled or is `idle`. -/
theorem enabled_settle (s : State) (st : Stimulus) : enabled s (settle s st) = true := by
  unfold settle
  split
  · assumption
  · rfl

/-- Everything one completed step can be: the chosen stimulus was enabled, and the state it was taken in is `s` but for
the script and the count of free choices. -/
theorem step_next {s t : State} (h : step s = .next t) :
    enabled s (choose s).1 = true ∧ t = taken (choose s).1 (choose s).2 := by
  rw [step_eq] at h
  split at h
  · exact ⟨‹_›, by injection h with h; exact h.symm⟩
  · cases h

/-- Choosing touches the script and the count of free choices only. -/
theorem choose_frame (s : State) :
    (choose s).2 = { s with stimuli := (choose s).2.stimuli, choices := (choose s).2.choices } := by
  unfold choose
  split <;> rfl

/-! ## Sequences of steps -/

theorem feed_nil (s : State) : feed [] s = .next s := rfl

/-- One more step at the front. -/
theorem feed_cons (st : Stimulus) (sts : List Stimulus) (s : State) :
    feed (st :: sts) s = if enabled s st then feed sts (taken st s) else .refused (.notEnabled st) := by
  have h : feed (st :: sts) s = match step (s.offer st) with
      | .next t => feed sts t
      | .fault f => .fault f
      | .refused q => .refused q := rfl
  rw [h, step_offer]
  by_cases he : enabled s st = true <;> simp [he]

/-- A sequence after a completed sequence. -/
theorem feed_append {xs ys : List Stimulus} {s t : State} (h : feed xs s = .next t) :
    feed (xs ++ ys) s = feed ys t := by
  induction xs generalizing s with
  | nil => cases h; rfl
  | cons x xs ih =>
    rw [feed_cons] at h
    rw [List.cons_append, feed_cons]
    split at h
    · rw [if_pos ‹_›]; exact ih h
    · cases h

/-- A completed sequence is a completed first step and a completed rest. -/
theorem feed_cons_next {st : Stimulus} {sts : List Stimulus} {s t : State} (h : feed (st :: sts) s = .next t) :
    enabled s st = true ∧ feed sts (taken st s) = .next t := by
  rw [feed_cons] at h
  split at h
  · exact ⟨‹_›, h⟩
  · cases h

/-- A completed sequence of two parts completes each part. -/
theorem feed_append_next {xs ys : List Stimulus} {s t : State} (h : feed (xs ++ ys) s = .next t) :
    ∃ u, feed xs s = .next u ∧ feed ys u = .next t := by
  induction xs generalizing s with
  | nil => exact ⟨s, rfl, h⟩
  | cons x xs ih =>
    obtain ⟨he, h⟩ := feed_cons_next h
    obtain ⟨u, h1, h2⟩ := ih h
    exact ⟨u, by rw [feed_cons, if_pos he, h1], h2⟩

/-! ## The output trace -/

theorem wireBytes_append (xs ys : List Event) : wireBytes (xs ++ ys) = wireBytes xs ++ wireBytes ys :=
  List.filterMap_append

theorem driverEvents_append (xs ys : List Event) : driverEvents (xs ++ ys) = driverEvents xs ++ driverEvents ys :=
  List.filter_append ..

/-- The events of the selected command are R72's, for every opcode. -/
theorem eventsOf_decodeOpcode (c : Byte) : eventsOf (decodeOpcode c) = responseEvents c := by
  revert c; decide

/-- A command calls one action, or two reads, or nothing. -/
theorem responseEvents_cases (c : Byte) : responseEvents c = [] ∨ (∃ a, responseEvents c = [.act a]) ∨
    ∃ x y, responseEvents c = [.read x, .read y] := by
  unfold responseEvents
  repeat' split
  all_goals simp

/-- Every step only appends to the trace, and this is what each appends. -/
theorem taken_trace (st : Stimulus) (s : State) : ∃ es, (taken st s).trace = s.trace ++ es ∧
    ((es = [.frame .frameReady, .wake] ∧ st = .rx Config.endMark ∧ s.cursor = .pos2) ∨
      (es = [] ∧ (st = .retire ∨ st = .idle ∨ ∃ l, st = .reset l)) ∨
      ((es = [.frame .continue_] ∨ es = [.frame .frameDiscarded]) ∧ ∃ b, st = .rx b) ∨
      (es = responseEvents s.cbuf.cmd ∧ ∃ r, st = .dispatch r) ∨
      (es = [.tx (s.rbuf.get s.txidx)] ∧ st = .tx)) := by
  cases st with
  | rx b =>
    obtain ⟨-, -, -, h⟩ | ⟨-, -, h⟩ | ⟨-, h⟩ | ⟨hc, hb, h⟩ | ⟨-, -, h⟩ := acceptByte_cases b s
    · exact ⟨_, by rw [taken, h], .inr (.inr (.inl ⟨.inl rfl, b, rfl⟩))⟩
    · exact ⟨_, by rw [taken, h], .inr (.inr (.inl ⟨.inr rfl, b, rfl⟩))⟩
    · exact ⟨_, by rw [taken, h], .inr (.inr (.inl ⟨.inl rfl, b, rfl⟩))⟩
    · exact ⟨_, by rw [taken, h], .inl ⟨rfl, by rw [hb], hc⟩⟩
    · exact ⟨_, by rw [taken, h], .inr (.inr (.inl ⟨.inr rfl, b, rfl⟩))⟩
  | dispatch r => simp [taken, eventsOf_decodeOpcode]
  | tx => obtain ⟨-, h⟩ | ⟨-, h⟩ := txByte_cases s <;> simp [taken, h]
  | retire | reset | idle => simp [taken]

/-- A byte received while a command is pending is dropped. -/
theorem taken_rx_pending {s : State} (b : Byte) (hc : s.cursor = .pos0) (hp : s.pending = true) :
    taken (.rx b) s = { s with trace := s.trace ++ [.frame .frameDiscarded] } := by
  obtain ⟨-, h, -, -⟩ | ⟨-, -, h⟩ | ⟨h, -⟩ | ⟨h, -, -⟩ | ⟨h, -, -⟩ := acceptByte_cases b s <;> simp_all [taken]

end Sys2Proof.Machine
end

