-- ==== Sys2Proof/Laws/PerInstr.lean ====
section
/-! SUPPORT. Statements made for every instruction, one lemma per constructor. FrameShape: the encoding of a command is a
3-byte frame with both markers in place and the opcode between them (spec/30_encoding.md R36, R43). -/

namespace Sys2Proof.Laws.FrameShape

/-- R36, R43: the shape of a command's bytes. -/
def Statement (i : Instr) : Prop := encode i = [0x80, i.opcode, 0xFF] ∧ (encode i).length = Config.cmdLen

theorem ping : Statement .ping := ⟨rfl, rfl⟩
theorem dcOn : Statement .dcOn := ⟨rfl, rfl⟩
theorem dcOff : Statement .dcOff := ⟨rfl, rfl⟩
theorem battOn : Statement .battOn := ⟨rfl, rfl⟩
theorem battOff : Statement .battOff := ⟨rfl, rfl⟩
theorem measDc : Statement .measDc := ⟨rfl, rfl⟩
theorem measBatt : Statement .measBatt := ⟨rfl, rfl⟩
theorem unknown (c : Byte) : Statement (.unknown c) := ⟨rfl, rfl⟩

end Sys2Proof.Laws.FrameShape
end

