-- ==== Sys2Proof/Laws/Ports.lean ====
section
/-! SUPPORT. What the port readings of Machine/Ports.lean do. -/

namespace Sys2Proof.Machine

@[simp] theorem levels_pending (s : State) : (levels s).pending = s.pending := rfl
@[simp] theorem levels_txValid (s : State) : (levels s).txValid = (s.dphase == .send) := rfl

/-- `tx_data` while `tx_valid` is high. -/
theorem levels_txData {s : State} (h : s.dphase = .send) : (levels s).txData = s.rbuf.get s.txidx := if_pos h

/-- The cycles of a step are those of the events it appended. -/
theorem stepCycles_eq {s t : State} {es : List Event} (h : t.trace = s.trace ++ es) : stepCycles s t = portCycles es := by
  simp [stepCycles, h]

/-- A `FrameReady` and its `Wake` share one cycle. -/
theorem portCycles_frameReady :
    portCycles [.frame .frameReady, .wake] = [{ Pulses.quiet with evt := some FrameEvent.frameReady.code, wake := true }] :=
  rfl

/-- Where nothing wakes, every event has a cycle of its own. -/
theorem portCycles_map {es : List Event} (h : Event.wake ∉ es) : portCycles es = es.map Event.pulses := by
  induction es with
  | nil => rfl
  | cons e es ih =>
    simp only [List.mem_cons, not_or] at h
    rw [List.map_cons, ← ih h.2]
    cases es with
    | nil => cases e <;> rfl
    | cons d ds => cases d <;> first | rfl | simp at h

end Sys2Proof.Machine
end

