-- ==== Sys2Proof/Tests/Slice0.lean ====
section
/-! SUPPORT. Tests on fixed values, each expected result taken from spec/95_test_vectors.md or a numbered rule (named in the
test's comment), and a witness for the hypotheses of every statement that has some. -/

namespace Sys2Proof.Tests

open Sys2Proof.Machine

/-! ## Small states -/

/-- A pending command with opcode `c` in an idle block: the start state of the DI vectors. -/
def ready (c : Byte) : State := { State.reset with cbuf := ⟨0x80, c, 0xFF⟩, pending := true }

/-- Cursor 1, a frame just opened (RA16). -/
def opened : State := { State.reset with cursor := .pos1, cbuf := ⟨0x80, 0, 0⟩ }

/-- Cursor 2, opcode 0x02 stored (RA17 with another opcode). -/
def opcodeStored : State := { State.reset with cursor := .pos2, cbuf := ⟨0x80, 0x02, 0⟩ }

/-- The start states of the SE vectors: the response 80 06 12 34 00 56 FF in `Send` at index `i`. -/
def sending (i : Fin 7) : State :=
  { ready 0x06 with rbuf := ⟨0x80, 0x06, ⟨0x12, 0x34, 0x00, 0x56⟩, 0xFF⟩, dphase := .send, txidx := i }

/-- The same response, all sent (SE8). -/
def sent : State := { sending 6 with dphase := .retire }

/-- The next state of one offered step, if there is one. -/
def after (s : State) (st : Stimulus) : Option State :=
  match step (s.offer st) with
  | .next t => some t
  | .fault _ => none
  | .refused _ => none

/-- What one dispatch puts into `rbuf`, and the events it adds to the empty trace of a DI start state. -/
def dispatched (c : Byte) (r : Option (Reading × Reading)) : Option (List Byte × List Event) :=
  (after (ready c) (.dispatch r)).map fun t => (t.rbuf.serialize, t.trace)

/-! ## WellFormed smoke (R41): the one check, an ill-formed term for each opcode it must refuse -/

theorem test_wellFormed_refuses_recognised_opcodes :
    ∀ c ∈ [0x01, 0x02, 0x03, 0x04, 0x05, 0x06, 0x07], (Instr.unknown c).wellFormed = false := by decide

theorem test_wellFormed_accepts_neighbours :
    (Instr.unknown 0x00).wellFormed = true ∧ (Instr.unknown 0x08).wellFormed = true := by decide

/-! ## Decoding: words written out from R39 -/

theorem test_decode_ping : decodeBytes [0b10000000, 0b00000001, 0b11111111] = .ok (.ping, []) := by decide
theorem test_decode_dcOn : decodeBytes [0b10000000, 0b00000010, 0b11111111] = .ok (.dcOn, []) := by decide
theorem test_decode_dcOff : decodeBytes [0b10000000, 0b00000011, 0b11111111] = .ok (.dcOff, []) := by decide
theorem test_decode_battOn : decodeBytes [0b10000000, 0b00000100, 0b11111111] = .ok (.battOn, []) := by decide
theorem test_decode_battOff : decodeBytes [0b10000000, 0b00000101, 0b11111111] = .ok (.battOff, []) := by decide
theorem test_decode_measDc : decodeBytes [0b10000000, 0b00000110, 0b11111111] = .ok (.measDc, []) := by decide
theorem test_decode_measBatt : decodeBytes [0b10000000, 0b00000111, 0b11111111, 0x80] = .ok (.measBatt, [0x80]) := by
  decide
theorem test_decode_unknown : decodeBytes [0b10000000, 0b10011001, 0b11111111] = .ok (.unknown 0x99, []) := by decide
/-- R42: the two positional errors, by name. -/
theorem test_decode_malformed : decodeBytes [0x7F, 0x01, 0xFF] = .error (.badSync 0x7F) ∧
    decodeBytes [0x80, 0x02, 0x00] = .error (.badEnd 0x00) ∧ decodeBytes [0x80, 0x01] = .error .truncated := by decide
/-- R38: the word convention, position 0 in the most significant byte. -/
theorem test_word_convention : frameOfWord 24 0x8006FF = ⟨0x80, 0x06, 0xFF⟩ ∧ encodeWord .measDc = 0x8006FF := by decide

/-- R45: `cmd DC_ON` is the three bytes, `serve` nine steps. -/
theorem test_stimulus_notations : cmdStimuli .dcOn = [.rx 0x80, .rx 0x02, .rx 0xFF] ∧
    (serveStimuli none).length = 9 := by decide
/-- R6, D15: the derived constant and the constraints on the literals. -/
theorem test_parameters : Config.rspLen = 1 + 1 + Config.payloadLen + 1 ∧ Config.sync ≠ Config.endMark ∧
    Config.opcodes.Nodup := by decide

/-! ## Dispatch: vectors DI1 to DI20 -/

theorem test_DI1_ping : dispatched 0x01 none = some ([0x80, 0x01, 0x01, 0, 0, 0, 0xFF], []) := by decide
theorem test_DI2_dcOn : dispatched 0x02 none = some ([0x80, 0x02, 0x01, 0, 0, 0, 0xFF], [.act .mainOn]) := by decide
theorem test_DI3_dcOff : dispatched 0x03 none = some ([0x80, 0x03, 0x01, 0, 0, 0, 0xFF], [.act .mainOff]) := by decide
theorem test_DI4_battOn : dispatched 0x04 none = some ([0x80, 0x04, 0x01, 0, 0, 0, 0xFF], [.act .battOn]) := by decide
theorem test_DI5_battOff : dispatched 0x05 none = some ([0x80, 0x05, 0x01, 0, 0, 0, 0xFF], [.act .battOff]) := by decide
theorem test_DI6_measDc : dispatched 0x06 (some (0x1234, 0x0056)) =
    some ([0x80, 0x06, 0x12, 0x34, 0x00, 0x56, 0xFF], [.read .dcV, .read .dcI]) := by decide
theorem test_DI7_measBatt : dispatched 0x07 (some (0x0E10, 0x01F4)) =
    some ([0x80, 0x07, 0x0E, 0x10, 0x01, 0xF4, 0xFF], [.read .battV, .read .battI]) := by decide
theorem test_DI16_measDc_high_byte_first : dispatched 0x06 (some (0x00FF, 0xFF00)) =
    some ([0x80, 0x06, 0x00, 0xFF, 0xFF, 0x00, 0xFF], [.read .dcV, .read .dcI]) := by decide
theorem test_DI17_measBatt_marker_values : dispatched 0x07 (some (0x8000, 0x80FF)) =
    some ([0x80, 0x07, 0x80, 0x00, 0x80, 0xFF, 0xFF], [.read .battV, .read .battI]) := by decide
theorem test_DI8_unknown_zero : dispatched 0x00 none = some ([0x80, 0x00, 0, 0, 0, 0, 0xFF], []) := by decide
theorem test_DI12_unknown_end : dispatched 0xFF none = some ([0x80, 0xFF, 0, 0, 0, 0, 0xFF], []) := by decide
/-- DI20: nothing of an earlier response leaks. -/
theorem test_DI20_no_stale_payload :
    (after { ready 0x01 with rbuf := ⟨0x80, 0x06, ⟨0xFF, 0xFF, 0xFF, 0xFF⟩, 0xFF⟩ } (.dispatch none)).map
      (fun t => t.rbuf.serialize) = some [0x80, 0x01, 0x01, 0, 0, 0, 0xFF] := by decide
/-- DI22: not enabled in the reset state. -/
theorem test_DI22_dispatch_not_enabled_at_reset : after State.reset (.dispatch none) = none := by decide

/-! ## The reassembler: one step each, from the exhaustive table under RA18 -/

theorem test_rx_sync : (after State.reset (.rx 0x80)).map (fun t => (t.cursor, t.cbuf.sync, t.trace)) =
    some (.pos1, 0x80, [.frame .continue_]) := by decide
/-- RA4: the end marker at cursor 0 is noise. -/
theorem test_rx_noise : (after State.reset (.rx 0xFF)).map (fun t => (t.cursor, t.pending, t.trace)) =
    some (.pos0, false, [.frame .frameDiscarded]) := by decide
/-- RA9: the sync byte while a command is pending. -/
theorem test_rx_blocked : (after (ready 0x01) (.rx 0x80)).map (fun t => (t.cursor, t.cbuf, t.trace)) =
    some (.pos0, ⟨0x80, 0x01, 0xFF⟩, [.frame .frameDiscarded]) := by decide
/-- RA5, S12: the sync byte at cursor 1 is an opcode. -/
theorem test_rx_sync_as_opcode : (after opened (.rx 0x80)).map (fun t => (t.cursor, t.cbuf.cmd)) =
    some (.pos2, 0x80) := by decide
/-- RA1: the end marker completes the frame, with one Wake. -/
theorem test_rx_end : (after opcodeStored (.rx 0xFF)).map (fun t => (t.cursor, t.pending, t.cbuf, t.trace)) =
    some (.pos0, true, ⟨0x80, 0x02, 0xFF⟩, [.frame .frameReady, .wake]) := by decide
/-- RA8: the sync byte at cursor 2 is consumed and not re-tested. -/
theorem test_rx_bad_end : (after opcodeStored (.rx 0x80)).map (fun t => (t.cursor, t.pending, t.trace)) =
    some (.pos0, false, [.frame .frameDiscarded]) := by decide

/-! ## The serializer and reset: vectors SE1 to SE8, RS3 -/

theorem test_SE3_tx : (after (sending 2) .tx).map (fun t => (t.txidx, t.dphase, t.trace)) =
    some (3, .send, [.tx 0x12]) := by decide
theorem test_SE7_last_tx : (after (sending 6) .tx).map (fun t => (t.txidx, t.dphase, t.pending, t.trace)) =
    some (6, .retire, true, [.tx 0xFF]) := by decide
theorem test_SE8_retire : (after sent .retire).map (fun t => (t.pending, t.dphase, t.txidx)) =
    some (false, .idle, 6) := by decide
theorem test_RS3_reset : (after (sending 3) (.reset [0x80])).map (fun t => (t.cursor, t.pending, t.dphase, t.txidx, t.trace)) =
    some (.pos0, false, .idle, 0, []) := by decide

/-! ## The fetch of the host's words: the first step after reset runs the command (R58, R65) -/

theorem test_fetch_dcOn : (match step (State.reset.withFetchWord 24 0x8002FF) with
    | .next t => some (t.rbuf.serialize, t.trace)
    | .fault _ => none
    | .refused _ => none) = some ([0x80, 0x02, 0x01, 0, 0, 0, 0xFF], [.act .mainOn]) := by decide
theorem test_fetch_measBatt : (match step (State.reset.withFetchWord 24 0x8007FF) with
    | .next t => some (t.rbuf.cmd, t.dphase, t.trace)
    | .fault _ => none
    | .refused _ => none) = some (0x07, .send, [.read .battV, .read .battI]) := by decide

/-! ## The ports of a step (R25: `wake` "together with `evt` = `FrameReady`", code 1; `meas_sel` 2 `BATT_V`, 3 `BATT_I`) -/

theorem test_ports_frameReady :
    (after opcodeStored (.rx 0xFF)).map (fun t => (stepCycles opcodeStored t).map fun p => (p.evt, p.wake)) =
      some [(some 1, true)] := by decide
theorem test_ports_measBatt :
    (after (ready 0x07) (.dispatch none)).map (fun t => (stepCycles (ready 0x07) t).map fun p => (p.meas, p.wake)) =
      some [(some 2, false), (some 3, false)] := by decide

/-! ## Witnesses: concrete states and operands that meet the hypotheses of each statement -/

theorem witness_DecodeInvertsEncode : (Instr.unknown 0x08).wellFormed = true := by decide
theorem witness_EncodeInvertsDecode : ∃ i rest, decodeBytes [0x80, 0x08, 0xFF, 0x80] = .ok (i, rest) := ⟨_, _, rfl⟩
theorem witness_OnlyMarkersDecideFrameValidity : [0x80, (0x01 : Byte)].length < 3 := by decide
theorem witness_SyncByteOpensFrame : State.reset.cursor = .pos0 ∧ State.reset.pending = false := by decide
theorem witness_ByteAtCursorZeroIsDropped :
    ((ready 0x01).cursor = .pos0 ∧ (ready 0x01).pending = true) ∧ (State.reset.cursor = .pos0 ∧ (0x7F : Byte) ≠ 0x80) := by
  decide
theorem witness_AnyByteIsStoredAsOpcode : opened.cursor = .pos1 := by decide
theorem witness_EndMarkerCompletesFrame : opcodeStored.cursor = .pos2 ∧
    ∃ t, step { opcodeStored with stimuli := [.rx 0xFF] } = .next t ∧
      t.trace = opcodeStored.trace ++ [.frame .frameReady, .wake] ∧ opcodeStored.pending = false ∧ t.pending = true :=
  ⟨rfl, _, rfl, rfl, rfl, rfl⟩
theorem witness_BadEndMarkerAbandonsFrame : opcodeStored.cursor = .pos2 ∧ (0xFE : Byte) ≠ 0xFF := by decide
theorem witness_AcceptByteDependsOnCursorPendingAndByte :
    (sending 3).cursor = (ready 0x01).cursor ∧ (sending 3).pending = (ready 0x01).pending := by decide
theorem witness_WakeExactlyOnFrameReady : ∃ t, step (opcodeStored.offer (.rx 0xFF)) = .next t := ⟨_, rfl⟩
theorem witness_FrameReadyExactlyAfterSyncAnyEnd :
    (∀ st ∈ [Stimulus.idle], st.isService = true) ∧
      ∃ t, feed ([.rx 0x80] ++ [.idle] ++ [.rx 0x80] ++ [.idle] ++ [.rx 0xFF]) State.reset = .next t :=
  ⟨by decide, _, rfl⟩
theorem witness_CursorMovesOnlyOnReceivedBytes :
    ∃ t, step (State.reset.offer (.rx 0x80)) = .next t ∧ t.cursor ≠ (State.reset.offer (.rx 0x80)).cursor :=
  ⟨_, rfl, by decide⟩
theorem witness_TwoZeroBytesRealign : opened.pending = false ∧ opcodeStored.pending = false := by decide
theorem witness_PendingCommandDropsEveryByte : (ready 0x01).cursor = .pos0 ∧ (ready 0x01).pending = true := by decide
theorem witness_StepRunsDecodedInstruction : (ready 0x06).pending = true ∧ (ready 0x06).dphase = .idle ∧
    decodeBytes (ready 0x06).cbuf.serialize = .ok (.measDc, []) := by decide
theorem witness_FetchWordRunsInstruction : Instr.measBatt.wellFormed = true := by decide
theorem witness_DispatchBuildsResponse : (ready 0xFF).pending = true ∧ (ready 0xFF).dphase = .idle := by decide
theorem witness_MeasDcReportsReadings_fixed :
    { ready 0x06 with measData := some (0x1234, 0x0056) }.measData = some (0x1234, 0x0056) := by decide
theorem witness_MeasDcReportsReadings_free : ∃ v i, State.reset.measData = none ∧
    v = Config.freeReading .dcV State.reset.draws ∧ i = Config.freeReading .dcI (State.reset.draws + 1) :=
  ⟨_, _, rfl, rfl, rfl⟩
theorem witness_MeasBattReportsReadings_fixed :
    { ready 0x07 with measData := some (0x0E10, 0x01F4) }.measData = some (0x0E10, 0x01F4) := by decide
theorem witness_MeasBattReportsReadings_free : ∃ v i, State.reset.measData = none ∧
    v = Config.freeReading .battV State.reset.draws ∧ i = Config.freeReading .battI (State.reset.draws + 1) :=
  ⟨_, _, rfl, rfl, rfl⟩
theorem witness_UnknownEchoesWithZeroPayload :
    ¬((0x01 : Byte) ≤ 0x00 ∧ (0x00 : Byte) ≤ 0x07) ∧ ¬((0x01 : Byte) ≤ 0x08 ∧ (0x08 : Byte) ≤ 0x07) := by decide
theorem witness_EveryResponseIsFreshAndFramed :
    (sending 3).measData = State.reset.measData ∧ (sending 3).draws = State.reset.draws := by decide
theorem witness_OnlyDispatchDrivesAndOnlyTxSends :
    (∃ t, step ((ready 0x02).offer (.dispatch none)) = .next t) ∧ ∃ t, step ((sending 0).offer .tx) = .next t :=
  ⟨⟨_, rfl⟩, _, rfl⟩
theorem witness_TxSendsNextByte : (sending 5).dphase = .send ∧ (sending 5).txidx.val < 6 ∧
    (sending 5).rbuf.serialize[(sending 5).txidx.val]? = some 0x56 := by decide
theorem witness_RetireReleasesCommand : sent.dphase = .retire ∧
    ∃ t, step { sent with stimuli := [.retire] } = .next t ∧
      (∀ lost, (choose { sent with stimuli := [.retire] }).1 ≠ .reset lost) ∧ sent.pending = true ∧ t.pending = false :=
  ⟨rfl, _, rfl, fun _ => by simp [choose], rfl, rfl⟩
theorem witness_SevenBytesAreSentInOrder : (sending 0).dphase = .send ∧ (sending 0).txidx = 0 := by decide

theorem sending_inv (i : Fin 7) : (sending i).Inv := by
  constructor <;> simp [sending, ready, State.reset, Config.sync, Config.endMark]

theorem sent_inv : sent.Inv := by
  constructor <;> simp [sent, sending, ready, State.reset, Config.sync, Config.endMark]

theorem ready_inv (c : Byte) : (ready c).Inv := by
  constructor <;> simp [ready, State.reset, Config.sync, Config.endMark]

theorem opcodeStored_inv : opcodeStored.Inv := by
  constructor <;> simp [opcodeStored, State.reset, Config.sync]

theorem witness_LastByteEndsSending :
    (sending 6).dphase = .send ∧ (sending 6).txidx.val = 6 ∧ (sending 6).Inv := ⟨rfl, rfl, sending_inv 6⟩
theorem witness_StalledTransportHoldsTheBlock : (sending 3).Inv ∧ (sending 3).dphase = .send ∧
    ∀ st ∈ [Stimulus.rx 0x80, .idle, .rx 0x01], st.isReception = true := ⟨sending_inv 3, by decide, by decide⟩
theorem witness_StopsExactlyOnDisabledScript :
    step (State.reset.offer (.dispatch none)) = .refused (.notEnabled (.dispatch none)) ∧
    step (State.reset.offer .tx) = .refused (.notEnabled .tx) ∧
    step (State.reset.offer .retire) = .refused (.notEnabled .retire) := ⟨rfl, rfl, rfl⟩
theorem witness_ForwardProgress : State.reset.stimuli = [] := by decide
theorem witness_EveryStepKeepsInvariant :
    opcodeStored.Inv ∧ ∃ t, step { opcodeStored with stimuli := [.rx 0xFF] } = .next t := ⟨opcodeStored_inv, _, rfl⟩
theorem witness_PhaseMovesInOneCycle :
    (∃ t, step ((ready 0x01).offer (.dispatch none)) = .next t ∧ t.dphase = .send) ∧
    (∃ t, step ((sending 6).offer .tx) = .next t ∧ t.dphase = .retire) ∧
    (∃ t, step (sent.offer .retire) = .next t ∧ t.dphase = .idle) ∧
    ∃ t, step ((sending 3).offer (.reset [])) = .next t ∧ t.dphase = .idle :=
  ⟨⟨_, rfl, rfl⟩, ⟨_, rfl, rfl⟩, ⟨_, rfl, rfl⟩, _, rfl, rfl⟩
theorem witness_StateIsWrittenByItsOwner :
    ∃ t, step ((sending 3).offer (.rx 0x80)) = .next t ∧ ∀ lost, (choose ((sending 3).offer (.rx 0x80))).1 ≠ .reset lost :=
  ⟨_, rfl, by intro _ h; cases h⟩
theorem witness_CommandIsStableWhilePending : (ready 0x01).Inv ∧ (ready 0x01).pending = true ∧
    ∃ t, step { ready 0x01 with stimuli := [.rx 0x80] } = .next t ∧
      ∀ lost, (choose { ready 0x01 with stimuli := [.rx 0x80] }).1 ≠ .reset lost :=
  ⟨ready_inv _, rfl, _, rfl, by intro _ h; cases h⟩
theorem witness_ByteCommutesWithDispatchAndTx :
    ((ready 0x06).Inv ∧ enabled (ready 0x06) (.dispatch none) = true) ∧ (sending 6).Inv ∧ enabled (sending 6) .tx = true :=
  ⟨⟨ready_inv _, rfl⟩, sending_inv 6, rfl⟩
theorem witness_SyncByteAroundRetireGoesBothWays : sent.Inv ∧ sent.dphase = .retire := ⟨sent_inv, rfl⟩
theorem witness_StraddlingFrameDesynchronises : sent.Inv ∧ sent.dphase = .retire := ⟨sent_inv, rfl⟩
/-- Two states that differ in `rbuf`, `cbuf` and `txidx`. -/
theorem witness_UnreadRegistersNeverMatter :
    SameVisible State.reset { State.reset with cbuf := ⟨1, 2, 3⟩, rbuf := ⟨1, 2, ⟨3, 4, 5, 6⟩, 7⟩, txidx := 6 } := by
  constructor <;> simp [State.reset]
theorem witness_CommandIsServedWhole :
    (State.reset.cursor = .pos0 ∧ State.reset.pending = false ∧ State.reset.dphase = .idle) ∧
    [Stimulus.rx 0x80, .dispatch (some (0x1234, 0x0056)), .tx, .tx, .rx 0xFF, .tx, .tx, .idle, .tx, .tx, .tx, .rx 0x80].filter
      (fun st => !st.isReception) = .dispatch (some (0x1234, 0x0056)) :: List.replicate 7 .tx := by decide
theorem witness_SentBytesAreWholeFrames : (ready 0x01).dphase = .idle ∧
    (∀ lost, Stimulus.reset lost ∉ [Stimulus.dispatch none, .tx, .tx]) ∧
    ∃ t, feed [.dispatch none, .tx, .tx] (ready 0x01) = .next t :=
  ⟨rfl, by simp, _, rfl⟩
theorem witness_ExactlyOneDispatchPerFrameReady : opcodeStored.Inv ∧ opcodeStored.pending = false ∧
    (∀ lost, Stimulus.reset lost ∉ [Stimulus.rx 0xFF, .dispatch none]) ∧
    ∃ t, feed [.rx 0xFF, .dispatch none] opcodeStored = .next t :=
  ⟨opcodeStored_inv, rfl, by simp, _, rfl⟩
theorem witness_WaitingHostCannotSeeClearPoint : (ready 0x06).pending = true ∧ (ready 0x06).dphase = .idle := by decide
theorem witness_MeasOrderOnlyReordersReads :
    { ready 0x06 with measData := some (0x1234, 0x0056) }.measData = some (0x1234, 0x0056) := by decide
theorem witness_TxDataIsTheByteHandedOver : (levels (sending 3)).txValid = true := by decide
theorem witness_StepCyclesFollowThePorts :
    (∃ t, step (opcodeStored.offer (.rx 0xFF)) = .next t ∧ (choose (opcodeStored.offer (.rx 0xFF))).1 = .rx 0xFF) ∧
    (∃ t, step ((ready 0x06).offer (.dispatch none)) = .next t ∧
      (choose ((ready 0x06).offer (.dispatch none))).1 = .dispatch none) ∧
    ∃ t, step ((sending 6).offer .tx) = .next t ∧ (choose ((sending 6).offer .tx)).1 = .tx :=
  ⟨⟨_, rfl, rfl⟩, ⟨_, rfl, rfl⟩, _, rfl, rfl⟩

end Sys2Proof.Tests
end

