-- ==== Sys2Proof/Proofs/Scope.lean ====
section
/-! SUPPORT. The scope statement (spec/00_scope.md R5; spec/20_memory.md R29): what a step shows to the drivers and to
the host, read off the events it appends to the trace. -/

namespace Sys2Proof.Machine

/-! ## Choosing moves no hardware register and appends nothing -/

@[simp] theorem choose_cbuf (s : State) : (choose s).2.cbuf = s.cbuf := by rw [choose_frame]
@[simp] theorem choose_rbuf (s : State) : (choose s).2.rbuf = s.rbuf := by rw [choose_frame]
@[simp] theorem choose_txidx (s : State) : (choose s).2.txidx = s.txidx := by rw [choose_frame]
@[simp] theorem choose_trace (s : State) : (choose s).2.trace = s.trace := by rw [choose_frame]

/-! ## R72's events are driver events only -/

theorem driverEvents_responseEvents (c : Byte) : driverEvents (responseEvents c) = responseEvents c := by
  obtain h | ⟨a, h⟩ | ⟨x, y, h⟩ := responseEvents_cases c <;> rw [h] <;> rfl

theorem wireBytes_responseEvents (c : Byte) : wireBytes (responseEvents c) = [] := by
  obtain h | ⟨a, h⟩ | ⟨x, y, h⟩ := responseEvents_cases c <;> rw [h] <;> rfl

/-! ## The scope statement -/

/-- Settles O31: both lists distribute over the trace a step appends to, so each kind of step is settled by the events
`taken_trace` says it appends. -/
theorem onlyDispatchDrivesAndOnlyTxSends : Obligations.OnlyDispatchDrivesAndOnlyTxSends := by
  intro s t h
  obtain ⟨-, rfl⟩ := step_next h
  obtain ⟨es, htrace, hes⟩ := taken_trace (choose s).1 (choose s).2
  rw [htrace, driverEvents_append, wireBytes_append, choose_trace]
  obtain ⟨rfl, hst, -⟩ | ⟨rfl, hst⟩ | ⟨hframe, b, hst⟩ | ⟨rfl, r, hst⟩ | ⟨rfl, hst⟩ := hes
  · rw [hst]
    exact ⟨rfl, rfl⟩
  · obtain hst | hst | ⟨l, hst⟩ := hst <;> rw [hst] <;> exact ⟨rfl, rfl⟩
  · rw [hst]
    obtain rfl | rfl := hframe <;> exact ⟨rfl, rfl⟩
  · rw [hst, choose_cbuf, driverEvents_responseEvents, wireBytes_responseEvents]
    exact ⟨rfl, rfl⟩
  · rw [hst, choose_rbuf, choose_txidx]
    exact ⟨rfl, rfl⟩

end Sys2Proof.Machine
end

/-! SUPPORT. The state statements (spec/10_state.md R9 to R22): which step writes which register, the cycle of the
phase, the invariant of R18, and the registers nothing reads. -/

namespace Sys2Proof.Machine

/-! ## Choosing moves no hardware register -/

@[simp] theorem choose_cursor (s : State) : (choose s).2.cursor = s.cursor := by rw [choose_frame]
@[simp] theorem choose_pending (s : State) : (choose s).2.pending = s.pending := by rw [choose_frame]
@[simp] theorem choose_dphase (s : State) : (choose s).2.dphase = s.dphase := by rw [choose_frame]

/-- Enabling looks at `pending` and the phase only. -/
theorem enabled_congr {s t : State} (hp : s.pending = t.pending) (hd : s.dphase = t.dphase) (st : Stimulus) :
    enabled s st = enabled t st := by
  cases st <;> simp [enabled, hp, hd]

/-- Whatever is enabled in a state stays enabled once the environment has chosen. -/
theorem enabled_choose (s : State) (st : Stimulus) : enabled (choose s).2 st = enabled s st :=
  enabled_congr (choose_pending s) (choose_dphase s) st

/-! ## What each operation leaves alone (R19) -/

@[simp] theorem txByte_cursor (s : State) : (txByte s).cursor = s.cursor := by
  obtain ⟨-, h⟩ | ⟨-, h⟩ := txByte_cases s <;> rw [h]
@[simp] theorem txByte_cbuf (s : State) : (txByte s).cbuf = s.cbuf := by
  obtain ⟨-, h⟩ | ⟨-, h⟩ := txByte_cases s <;> rw [h]
@[simp] theorem txByte_pending (s : State) : (txByte s).pending = s.pending := by
  obtain ⟨-, h⟩ | ⟨-, h⟩ := txByte_cases s <;> rw [h]
@[simp] theorem txByte_rbuf (s : State) : (txByte s).rbuf = s.rbuf := by
  obtain ⟨-, h⟩ | ⟨-, h⟩ := txByte_cases s <;> rw [h]

/-- A received byte leaves the response side alone, and does not clear `pending`. -/
theorem acceptByte_frame (b : Byte) (s : State) :
    (acceptByte b s).1.rbuf = s.rbuf ∧ (acceptByte b s).1.dphase = s.dphase ∧ (acceptByte b s).1.txidx = s.txidx ∧
      (s.pending = true → (acceptByte b s).1.pending = true) := by
  obtain ⟨-, -, -, h⟩ | ⟨-, -, h⟩ | ⟨-, h⟩ | ⟨-, -, h⟩ | ⟨-, -, h⟩ := acceptByte_cases b s <;> simp [h]

/-- A step that is neither a received byte nor reset leaves the reassembler's side alone, and does not set `pending`. -/
theorem taken_service_frame {st : Stimulus} (s : State) (hst : st.isService = true) :
    (taken st s).cursor = s.cursor ∧ (taken st s).cbuf = s.cbuf ∧
      (s.pending = false → (taken st s).pending = false) := by
  cases st with
  | rx | reset => cases hst
  | dispatch | tx | retire | idle => simp [taken]

/-- Only a dispatch and reset write `rbuf`. -/
theorem taken_rbuf {st : Stimulus} (s : State) (hd : ∀ r, st ≠ .dispatch r) (hr : ∀ lost, st ≠ .reset lost) :
    (taken st s).rbuf = s.rbuf := by
  cases st with
  | rx b => exact (acceptByte_frame b s).1
  | dispatch r => exact absurd rfl (hd r)
  | reset lost => exact absurd rfl (hr lost)
  | tx => exact txByte_rbuf s
  | retire | idle => rfl

/-- What is no received byte and no reset is a service step. -/
theorem isService_of_ne {st : Stimulus} (hb : ∀ b, st ≠ .rx b) (hr : ∀ lost, st ≠ .reset lost) :
    st.isService = true := by
  cases st with
  | rx b => exact absurd rfl (hb b)
  | reset lost => exact absurd rfl (hr lost)
  | dispatch | tx | retire | idle => rfl

/-- Settles O45: each clause is the frame of one kind of step, taken after the choice, which moves no register. -/
theorem stateIsWrittenByItsOwner : Obligations.StateIsWrittenByItsOwner := by
  intro s t h hr
  obtain ⟨-, rfl⟩ := step_next h
  refine ⟨fun hb => ?_, fun ⟨b, hst⟩ => ?_, fun hd => ?_⟩
  · simpa using taken_service_frame (choose s).2 (isService_of_ne hb hr)
  · rw [hst]
    simpa [taken] using acceptByte_frame b (choose s).2
  · simpa using taken_rbuf (choose s).2 hd hr

/-! ## The cycle of the phase (R14) -/

/-- Every way an enabled step can move the phase. -/
theorem taken_dphase_cases {st : Stimulus} {s : State} (he : enabled s st = true)
    (hne : (taken st s).dphase ≠ s.dphase) :
    (s.dphase = .idle ∧ (taken st s).dphase = .send ∧ ∃ r, st = .dispatch r) ∨
    (s.dphase = .send ∧ (taken st s).dphase = .retire ∧ s.txidx = 6 ∧ st = .tx) ∨
    (s.dphase = .retire ∧ (taken st s).dphase = .idle ∧ st = .retire) ∨
    ∃ lost, st = .reset lost := by
  cases st with
  | rx b => exact absurd (acceptByte_frame b s).2.1 hne
  | dispatch r =>
    have hidle : s.pending = true ∧ s.dphase = .idle := by simpa [enabled] using he
    exact .inl ⟨hidle.2, rfl, r, rfl⟩
  | tx =>
    have hsend : s.dphase = .send := by simpa [enabled] using he
    obtain ⟨-, h⟩ | ⟨hlast, h⟩ := txByte_cases s
    · exact absurd (by rw [taken, h]) hne
    · exact .inr (.inl ⟨hsend, by rw [taken, h], hlast, rfl⟩)
  | retire => exact .inr (.inr (.inl ⟨by simpa [enabled] using he, rfl, rfl⟩))
  | reset lost => exact .inr (.inr (.inr ⟨lost, rfl⟩))
  | idle => exact absurd rfl hne

/-- Settles O44: the cases of `taken_dphase_cases`, taken after the choice. -/
theorem phaseMovesInOneCycle : Obligations.PhaseMovesInOneCycle := by
  intro s t h hne
  obtain ⟨he, rfl⟩ := step_next h
  rw [← enabled_choose] at he
  rw [← choose_dphase s] at hne
  simpa using taken_dphase_cases he hne

/-! ## The invariant (R18) -/

/-- Settles O42. -/
theorem resetStateIsIdle : Obligations.ResetStateIsIdle := ⟨rfl, rfl, rfl, rfl, rfl⟩

namespace State.Inv

/-- Item (4) read backwards: nothing is served while nothing is pending. -/
theorem idle_of_not_pending {s : State} (hi : s.Inv) (hp : s.pending = false) : s.dphase = .idle := by
  by_contra hd
  simp [hi.served_pending hd] at hp

/-- An idle block in which no command is pending and no frame is open meets the invariant, whatever the buffers hold. -/
theorem of_quiet {s : State} (hc : s.cursor = .pos0) (hp : s.pending = false) (hd : s.dphase = .idle) : s.Inv where
  cursor_pending h := absurd hc h
  open_sync h := absurd hc h
  pending_framed h := by simp [hp] at h
  served_pending h := absurd hd h
  send_framed h := by simp [hd] at h

/-- The invariant speaks of hardware registers only. -/
theorem choose {s : State} (hi : s.Inv) : (choose s).2.Inv := by
  rw [choose_frame]
  exact ⟨hi.cursor_pending, hi.open_sync, hi.pending_framed, hi.served_pending, hi.send_framed⟩

/-- A received byte: it is stored only while nothing is pending, so no response is in flight to be disturbed. -/
theorem acceptByte {s : State} (hi : s.Inv) (b : Byte) : (acceptByte b s).1.Inv := by
  obtain ⟨hc, hp, rfl, h⟩ | ⟨-, -, h⟩ | ⟨hc, h⟩ | ⟨hc, rfl, h⟩ | ⟨hc, -, h⟩ := acceptByte_cases b s <;> rw [h]
  · exact ⟨fun _ => hp, fun _ => rfl, fun h => by simp [hp] at h, hi.served_pending, hi.send_framed⟩
  · exact ⟨hi.cursor_pending, hi.open_sync, hi.pending_framed, hi.served_pending, hi.send_framed⟩
  all_goals
    have hopen : s.cursor ≠ .pos0 := by simp [hc]
    have hp := hi.cursor_pending hopen
    have hd := hi.idle_of_not_pending hp
  · exact ⟨fun _ => hp, fun _ => hi.open_sync hopen, hi.pending_framed, hi.served_pending, fun h => by simp [hd] at h⟩
  · exact ⟨fun h => absurd rfl h, fun h => absurd rfl h, fun _ => ⟨hi.open_sync hopen, rfl⟩, fun _ => rfl, hi.send_framed⟩
  · exact of_quiet rfl hp hd

/-- A handed-over byte: the response stays, and after the last one nothing is being sent. -/
theorem txByte {s : State} (hi : s.Inv) (hsend : s.dphase = .send) : (txByte s).Inv := by
  have hp : s.pending = true := hi.served_pending (by simp [hsend])
  obtain ⟨-, h⟩ | ⟨-, h⟩ := txByte_cases s <;> rw [h]
  · exact ⟨hi.cursor_pending, hi.open_sync, hi.pending_framed, hi.served_pending, hi.send_framed⟩
  · exact ⟨hi.cursor_pending, hi.open_sync, hi.pending_framed, fun _ => hp, fun h => by simp at h⟩

/-- Every enabled step keeps the invariant. -/
theorem taken {s : State} (hi : s.Inv) {st : Stimulus} (he : enabled s st = true) : (taken st s).Inv := by
  cases st with
  | rx b => exact hi.acceptByte b
  | dispatch r =>
    have hready : s.pending = true ∧ s.dphase = .idle := by simpa [enabled] using he
    exact ⟨hi.cursor_pending, hi.open_sync, hi.pending_framed, fun _ => hready.1, fun _ => ⟨rfl, rfl, rfl⟩⟩
  | tx => exact hi.txByte (by simpa [enabled] using he)
  | retire =>
    exact ⟨fun _ => rfl, hi.open_sync, fun h => by simp [Machine.taken] at h, fun h => absurd rfl h,
      fun h => by simp [Machine.taken] at h⟩
  | reset lost => exact of_quiet rfl rfl rfl
  | idle => exact hi

end State.Inv

/-- Settles O40: nothing is pending, open or served. -/
theorem resetMeetsInvariant : Obligations.ResetMeetsInvariant := .of_quiet rfl rfl rfl

/-- Settles O41: the choice moves no register, and each enabled step keeps the invariant. -/
theorem everyStepKeepsInvariant : Obligations.EveryStepKeepsInvariant := by
  intro s t hi h
  obtain ⟨he, rfl⟩ := step_next h
  exact hi.choose.taken (by rwa [enabled_choose])

/-! ## Registers nothing reads (R10, R13, R15, R22, R70) -/

/-- The one class that sets `pending` comes with the cursor at 2, where the opcode has been received. -/
theorem cursor_of_classify_frameEnd {c : Cursor} {p : Bool} {b : Byte} (h : classify c p b = .frameEnd) :
    c = .pos2 := by
  cases c with
  | pos0 => unfold classify at h; split_ifs at h
  | pos1 => cases h
  | pos2 => rfl

/-- The payload of a command depends on its readings only. -/
theorem payloadOf_congr {s t : State} (hm : s.measData = t.measData) (hd : s.draws = t.draws) (i : Instr) :
    payloadOf i s = payloadOf i t := by
  cases i <;> simp [payloadOf, nextReading, hm, hd]

namespace SameVisible

variable {s t : State}

/-- Both states enable the same steps. -/
theorem enabled (h : SameVisible s t) (st : Stimulus) : enabled s st = enabled t st :=
  enabled_congr h.pending h.dphase st

/-- Both states leave the environment the same choice. -/
theorem choose_fst (h : SameVisible s t) : (choose s).1 = (choose t).1 := by
  unfold Machine.choose settle
  rw [h.stimuli, h.choices, h.enabled]
  split <;> rfl

/-- The states the two choices leave are again alike. -/
theorem choose_snd (h : SameVisible s t) : SameVisible (choose s).2 (choose t).2 := by
  unfold Machine.choose
  rw [h.stimuli]
  split
  · exact { h with stimuli := rfl }
  · exact { h with stimuli := rfl, choices := congrArg (· + 1) h.choices }

/-- One more event, the same on both sides. -/
theorem emit (h : SameVisible s t) (e : Event) : SameVisible (emit e s) (emit e t) :=
  { h with trace := congrArg (· ++ [e]) h.trace }

/-- The same FrameEvent on both sides. -/
theorem emitFrameEvent (h : SameVisible s t) (e : FrameEvent) :
    SameVisible (emitFrameEvent e s) (emitFrameEvent e t) := by
  cases e with
  | frameReady => exact (h.emit _).emit _
  | continue_ | frameDiscarded => exact h.emit _

/-- A byte stored alike: the markers are not looked at, the opcode becomes the same byte, and `pending` rises only where
the opcode is the same already. -/
theorem storeByte (h : SameVisible s t) {k : ByteClass} (hk : k = .frameEnd → s.cursor = .pos2) (b : Byte) :
    SameVisible (storeByte k b s) (storeByte k b t) := by
  cases k with
  | frameStart => exact { h with cursor := rfl, cmd := fun hc => h.cmd (.inl (by simpa [Machine.storeByte] using hc)) }
  | opcode => exact { h with cursor := rfl, cmd := fun _ => rfl }
  | frameEnd => exact { h with cursor := rfl, pending := rfl, cmd := fun _ => h.cmd (.inr (hk rfl)) }
  | badEnd => exact { h with cursor := rfl, cmd := fun hc => h.cmd (.inl (by simpa [Machine.storeByte] using hc)) }
  | noise | blocked => exact h

/-- The same received byte. -/
theorem acceptByte (h : SameVisible s t) (b : Byte) : SameVisible (acceptByte b s).1 (acceptByte b t).1 := by
  unfold Machine.acceptByte
  rw [← h.cursor, ← h.pending]
  exact (h.storeByte cursor_of_classify_frameEnd b).emitFrameEvent _

/-- The same `tx_byte`, of the same response. -/
theorem txByte (h : SameVisible s t) (hsend : s.dphase = .send) : SameVisible (txByte s) (txByte t) := by
  have hr := h.rbuf hsend
  have hi := h.txidx hsend
  have hemit := h.emit (.tx (s.rbuf.get s.txidx))
  unfold Machine.txByte
  rw [← hr, ← hi]
  split
  · exact { hemit with txidx := fun _ => rfl }
  · exact { hemit with dphase := rfl, rbuf := fun _ => hr, txidx := fun _ => hi }

/-- The same dispatch, of the same command: the response and the readings are new on both sides. -/
theorem dispatch (h : SameVisible s t) (hp : s.pending = true) (r : Option (Reading × Reading)) :
    SameVisible (taken (.dispatch r) s) (taken (.dispatch r) t) := by
  have hcmd : s.cbuf.cmd = t.cbuf.cmd := h.cmd (.inl hp)
  have hpayload (i : Instr) : payloadOf i { s with measData := r } = payloadOf i { t with measData := r } := by
    apply payloadOf_congr
    · rfl
    · exact h.draws
  exact { h with
    dphase := rfl
    rbuf := fun _ => by simp only [taken, hcmd, hpayload]
    txidx := fun _ => rfl
    trace := by simp only [taken, hcmd, h.trace]
    draws := by simp only [taken, hcmd, h.draws] }

/-- The same enabled step leads to states that are alike again. -/
theorem taken (h : SameVisible s t) {st : Stimulus} (he : Machine.enabled s st = true) :
    SameVisible (taken st s) (taken st t) := by
  cases st with
  | rx b => exact h.acceptByte b
  | dispatch r =>
    have hready : s.pending = true ∧ s.dphase = .idle := by simpa [Machine.enabled] using he
    exact h.dispatch hready.1 r
  | tx => exact h.txByte (by simpa [Machine.enabled] using he)
  | retire =>
    exact { h with
      pending := rfl
      dphase := rfl
      cmd := fun hc => h.cmd (.inr (by simpa [Machine.taken] using hc))
      rbuf := fun hd => by simp [Machine.taken] at hd
      txidx := fun hd => by simp [Machine.taken] at hd }
  | reset lost => exact ⟨rfl, rfl, rfl, fun _ => rfl, fun _ => rfl, fun _ => rfl, h.trace, h.stimuli, h.choices, h.draws⟩
  | idle => exact h

end SameVisible

/-- Settles O50: alike states face the same choice, enable it alike, and stay alike when it is taken. -/
theorem unreadRegistersNeverMatter : Obligations.UnreadRegistersNeverMatter := by
  intro s t h
  have hchoice := h.choose_fst
  have henabled := h.enabled (choose s).1
  constructor
  · intro s' hs
    obtain ⟨he, rfl⟩ := step_next hs
    refine ⟨taken (choose s).1 (choose t).2, ?_, h.choose_snd.taken (by rwa [enabled_choose])⟩
    rw [step_eq, ← hchoice, if_pos (henabled ▸ he)]
  · intro q
    rw [step_eq s, step_eq t, ← hchoice, ← henabled]
    split <;> simp

end Sys2Proof.Machine

/-! SUPPORT. The memory statements (spec/20_memory.md R23 to R34): which choices are refused, what a pending command is
safe from, how a command is served while bytes arrive, and what the ports show. -/

namespace Sys2Proof.Machine

/-! ## Choices that are not enabled (R30, R45) -/

/-- The choices R30 does not enable. -/
theorem enabled_eq_false_iff (s : State) (st : Stimulus) : enabled s st = false ↔
    (∃ r, st = .dispatch r ∧ ¬(s.pending = true ∧ s.dphase = .idle)) ∨
      (st = .tx ∧ s.dphase ≠ .send) ∨ (st = .retire ∧ s.dphase ≠ .retire) := by
  cases st with
  | dispatch | tx | retire => simp [enabled]
  | rx | reset | idle => simp [enabled]

/-- A refused step is one whose choice is not enabled, and the refusal names the choice. -/
theorem step_refused_iff (s : State) (q : Refusal) :
    step s = .refused q ↔ enabled s (choose s).1 = false ∧ q = .notEnabled (choose s).1 := by
  rw [step_eq]
  cases enabled s (choose s).1 <;> simp [eq_comm]

/-- Settles O38: a free choice is enabled or `idle`, so only a scripted one can be refused. -/
theorem stopsExactlyOnDisabledScript : Obligations.StopsExactlyOnDisabledScript := by
  intro s q
  simp only [← enabled_eq_false_iff]
  rw [step_refused_iff]
  cases hs : s.stimuli with
  | nil => simp [choose, hs, enabled_settle]
  | cons st rest =>
    have hchoice : (choose s).1 = st := by simp [choose, hs]
    rw [hchoice]
    exact ⟨fun ⟨he, hq⟩ => ⟨st, rest, rfl, hq, he⟩, fun ⟨_, _, heq, hq, he⟩ => by cases heq; exact ⟨he, hq⟩⟩

/-- A received byte, or no step at all, is always enabled. -/
theorem feed_reception {st : Stimulus} (hst : st.isReception = true) (sts : List Stimulus) (s : State) :
    feed (st :: sts) s = feed sts (taken st s) := by
  have he : enabled s st = true := by
    cases st with
    | rx | idle => rfl
    | dispatch | tx | retire | reset => cases hst
  rw [feed_cons, if_pos he]

/-! ## A pending command is safe from later input (R34, R50) -/

/-- Settles O17, by induction on the bytes: each is dropped, and the state stays one that drops the next. -/
theorem pendingCommandDropsEveryByte : Obligations.PendingCommandDropsEveryByte := by
  intro s bs hc hp
  induction bs generalizing s with
  | nil => simp [feed_nil]
  | cons b bs ih =>
    rw [List.map_cons, feed_reception rfl, taken_rx_pending b hc hp, ih]
    · simp
    · exact hc
    · exact hp

/-- Item (2) of R18 read backwards: no frame is open while a command is pending. -/
theorem State.Inv.cursor_of_pending {s : State} (hi : s.Inv) (hp : s.pending = true) : s.cursor = .pos0 := by
  by_contra hc
  simp [hi.cursor_pending hc] at hp

/-- At cursor 0 with a command pending no step but reset moves the cursor or writes `cbuf`. -/
theorem taken_pending_frame {st : Stimulus} {s : State} (hc : s.cursor = .pos0) (hp : s.pending = true)
    (hr : ∀ lost, st ≠ .reset lost) : (taken st s).cursor = .pos0 ∧ (taken st s).cbuf = s.cbuf := by
  cases st with
  | rx b => rw [taken_rx_pending b hc hp]; exact ⟨hc, rfl⟩
  | reset lost => exact absurd rfl (hr lost)
  | dispatch | tx | retire | idle =>
    obtain ⟨hcursor, hcbuf, -⟩ := taken_service_frame s (isService_of_ne (by simp) hr)
    exact ⟨hcursor.trans hc, hcbuf⟩

/-- Settles O46: the invariant puts the cursor at 0, where nothing is stored. -/
theorem commandIsStableWhilePending : Obligations.CommandIsStableWhilePending := by
  intro s t hi hp h hr
  obtain ⟨-, rfl⟩ := step_next h
  have hc := hi.cursor_of_pending hp
  have hframe := taken_pending_frame (s := (choose s).2) (by simpa using hc) (by simpa using hp) hr
  exact ⟨by simpa using hframe.2, hc, hframe.1⟩

/-! ## Receiving a frame (R49, R51, R52) -/

/-- R49: the sync marker opens a frame. -/
theorem taken_rx_sync {s : State} (hc : s.cursor = .pos0) (hp : s.pending = false) :
    taken (.rx Config.sync) s = { s with
      cbuf := { s.cbuf with sync := Config.sync }, cursor := .pos1, trace := s.trace ++ [.frame .continue_] } := by
  obtain ⟨-, -, -, h⟩ | ⟨-, h, -⟩ | ⟨h, -⟩ | ⟨h, -, -⟩ | ⟨h, -, -⟩ := acceptByte_cases Config.sync s <;>
    simp_all [taken]

/-- R51: every byte at cursor 1 is the opcode. -/
theorem taken_rx_opcode {s : State} (b : Byte) (hc : s.cursor = .pos1) :
    taken (.rx b) s = { s with
      cbuf := { s.cbuf with cmd := b }, cursor := .pos2, trace := s.trace ++ [.frame .continue_] } := by
  obtain ⟨h, -⟩ | ⟨h, -⟩ | ⟨-, h⟩ | ⟨h, -⟩ | ⟨h, -⟩ := acceptByte_cases b s <;> simp_all [taken]

/-- R52: the end marker at cursor 2 makes the command pending. -/
theorem taken_rx_endMark {s : State} (hc : s.cursor = .pos2) :
    taken (.rx Config.endMark) s = { s with
      cbuf := { s.cbuf with endMark := Config.endMark }, cursor := .pos0, pending := true,
      trace := s.trace ++ [.frame .frameReady, .wake] } := by
  obtain ⟨h, -⟩ | ⟨h, -⟩ | ⟨h, -⟩ | ⟨-, -, h⟩ | ⟨-, h, -⟩ := acceptByte_cases Config.endMark s <;> simp_all [taken]

/-- `s` after the command frame of opcode `c` has been received. -/
def State.received (s : State) (c : Byte) : State :=
  { s with
    cbuf := ⟨Config.sync, c, Config.endMark⟩
    cursor := .pos0
    pending := true
    trace := s.trace ++ [.frame .continue_, .frame .continue_, .frame .frameReady, .wake] }

@[simp] theorem received_cbuf (s : State) (c : Byte) :
    (s.received c).cbuf = ⟨Config.sync, c, Config.endMark⟩ := rfl

/-- The host sees nothing while a frame is received. -/
theorem wireBytes_received (s : State) (c : Byte) : wireBytes (s.received c).trace = wireBytes s.trace :=
  (wireBytes_append ..).trans (List.append_nil _)

/-- The devices see nothing while a frame is received. -/
theorem driverEvents_received (s : State) (c : Byte) : driverEvents (s.received c).trace = driverEvents s.trace :=
  (driverEvents_append ..).trans (List.append_nil _)

/-- R32: the three bytes of a command frame, from cursor 0 with nothing pending, make that command pending. -/
theorem feed_commandFrame {s : State} (c : Byte) (hc : s.cursor = .pos0) (hp : s.pending = false) :
    feed [.rx Config.sync, .rx c, .rx Config.endMark] s = .next (s.received c) := by
  rw [feed_reception rfl, taken_rx_sync hc hp, feed_reception rfl, taken_rx_opcode c rfl, feed_reception rfl,
    taken_rx_endMark rfl, feed_nil]
  simp [State.received]

/-! ## The response of a dispatch (R68, R72) -/

theorem hiByte_eq (r : Reading) : hiByte r = BitVec.ofNat 8 (r.toNat / 256) := by
  apply BitVec.eq_of_toNat_eq
  simp [hiByte, Nat.shiftRight_eq_div_pow]

theorem loByte_eq (r : Reading) : loByte r = BitVec.ofNat 8 (r.toNat % 256) := by
  apply BitVec.eq_of_toNat_eq
  simp [loByte]

/-- The frame each well-formed command builds is R72's, where the readings are `v` and `i`. -/
theorem serialize_buildResponse {s : State} {j : Instr} {v i : Reading} (hwf : j.wellFormed = true)
    (hm : s.measData = some (v, i)) :
    (buildResponse j.opcode (payloadOf j s)).serialize = responseBytes j.opcode v i := by
  cases j with
  | ping | dcOn | dcOff | battOn | battOff => rfl
  | measDc | measBatt =>
    simp only [payloadOf, nextReading, hm, Channel.pick, Payload.meas, hiByte_eq, loByte_eq]
    rfl
  | unknown c =>
    have hacked : ¬(0x01 ≤ c ∧ c ≤ 0x05) := by revert hwf; revert c; decide
    have hmeasured : ¬(c = 0x06 ∨ c = 0x07) := by revert hwf; revert c; decide
    change _ = responseBytes c v i
    rw [responseBytes, if_neg hacked, if_neg hmeasured]
    rfl

/-! ## Sending without interruption (R73) -/

/-- R73: from index 0 the seven bytes of `rbuf` go out in order. -/
theorem feed_sevenTx {s : State} (hd : s.dphase = .send) (hi : s.txidx = 0) :
    feed (List.replicate 7 .tx) s = .next { s with
      dphase := .retire, txidx := 6, trace := s.trace ++ s.rbuf.serialize.map .tx } := by
  simp [List.replicate, feed_cons, feed_nil, enabled, taken, txByte, emit, hd, hi, ResponseFrame.get,
    ResponseFrame.serialize]

/-- R72, R73: a pending command, served without interruption up to the last byte of its response. -/
theorem feed_serve {s : State} (v i : Reading) (hp : s.pending = true) (hd : s.dphase = .idle) :
    ∃ t, feed (.dispatch (some (v, i)) :: List.replicate 7 .tx) s = .next t ∧
      t.cursor = s.cursor ∧ t.cbuf = s.cbuf ∧ t.dphase = .retire ∧
      t.trace = s.trace ++ responseEvents s.cbuf.cmd ++ (responseBytes s.cbuf.cmd v i).map .tx := by
  have he : enabled s (.dispatch (some (v, i))) = true := by simp [enabled, hp, hd]
  rw [feed_cons, if_pos he, feed_sevenTx rfl rfl]
  refine ⟨_, rfl, rfl, rfl, rfl, ?_⟩
  have hresponse := serialize_buildResponse (s := { s with measData := some (v, i) })
    (wellFormed_decodeOpcode s.cbuf.cmd) rfl
  rw [opcode_decodeOpcode] at hresponse
  simp only [taken, hresponse, eventsOf_decodeOpcode]

/-! ## Receiving while a command is served (R34, R77) -/

/-- `t` is `s` but for FrameEvents and wakes in its trace: the host and the devices have seen the same. -/
structure SameOutput (s t : State) : Prop where
  /-- All registers are the same. -/
  regs : t = { s with trace := t.trace }
  /-- The host has seen the same bytes. -/
  wire : wireBytes t.trace = wireBytes s.trace
  /-- The devices have seen the same calls. -/
  driver : driverEvents t.trace = driverEvents s.trace

/-- A dispatch or a `tx_byte` step does the same whatever the trace is, and appends the same events to it. -/
theorem taken_withTrace {st : Stimulus} (hst : (∃ r, st = .dispatch r) ∨ st = .tx) (s : State) :
    ∃ es, ∀ tr, taken st { s with trace := tr } = { taken st s with trace := tr ++ es } := by
  obtain ⟨r, rfl⟩ | rfl := hst
  · refine ⟨eventsOf (decodeOpcode s.cbuf.cmd), fun tr => ?_⟩
    have hpayload := payloadOf_congr (s := { s with trace := tr, measData := r }) (t := { s with measData := r })
      rfl rfl (decodeOpcode s.cbuf.cmd)
    simp only [taken, hpayload]
  · refine ⟨[.tx (s.rbuf.get s.txidx)], fun tr => ?_⟩
    by_cases hlast : s.txidx.val < 6 <;> simp [taken, txByte, emit, hlast]

namespace SameOutput

variable {s t : State}

theorem refl (s : State) : SameOutput s s := ⟨rfl, rfl, rfl⟩

/-- The same dispatch or `tx_byte` step on both sides. -/
theorem taken (h : SameOutput s t) {st : Stimulus} (hst : (∃ r, st = .dispatch r) ∨ st = .tx) :
    SameOutput (taken st s) (taken st t) := by
  obtain ⟨es, hes⟩ := taken_withTrace hst s
  have hs : (Machine.taken st s).trace = s.trace ++ es := congrArg State.trace (hes s.trace)
  have ht : Machine.taken st t = { Machine.taken st s with trace := t.trace ++ es } := h.regs ▸ hes t.trace
  rw [ht]
  exact ⟨rfl, by simp [hs, wireBytes_append, h.wire], by simp [hs, driverEvents_append, h.driver]⟩

/-- One more reception step, or none, on the right: the byte is dropped. -/
theorem reception (h : SameOutput s t) {st : Stimulus} (hst : st.isReception = true) (hc : s.cursor = .pos0)
    (hp : s.pending = true) : SameOutput s (Machine.taken st t) := by
  cases st with
  | rx b =>
    have hreg : t.cursor = .pos0 ∧ t.pending = true := by rw [h.regs]; exact ⟨hc, hp⟩
    rw [taken_rx_pending b hreg.1 hreg.2]
    constructor
    · conv_lhs => rw [h.regs]
    · simpa [wireBytes] using h.wire
    · simpa [driverEvents] using h.driver
  | idle => exact h
  | dispatch | tx | retire | reset => cases hst

/-- R34, R77: reception steps among the dispatch and `tx_byte` steps of a pending command change no output. -/
theorem feed {sts : List Stimulus} {u : State} (h : SameOutput s t) (hc : s.cursor = .pos0) (hp : s.pending = true)
    (hsts : ∀ st ∈ sts.filter (fun st => !st.isReception), (∃ r, st = .dispatch r) ∨ st = .tx)
    (hrun : feed (sts.filter fun st => !st.isReception) s = .next u) :
    ∃ w, feed sts t = .next w ∧ SameOutput u w := by
  induction sts generalizing s t with
  | nil =>
    cases hrun
    exact ⟨t, rfl, h⟩
  | cons st sts ih =>
    cases hr : st.isReception with
    | true =>
      rw [List.filter_cons_of_neg (by simp [hr])] at hsts hrun
      rw [feed_reception hr]
      exact ih (h.reception hr hc hp) hc hp hsts hrun
    | false =>
      rw [List.filter_cons_of_pos (by simp [hr])] at hsts hrun
      obtain ⟨he, hrun⟩ := feed_cons_next hrun
      have he : enabled t st = true := by rw [h.regs]; exact he
      obtain ⟨hst, hsts⟩ := List.forall_mem_cons.mp hsts
      have hcursor : (Machine.taken st s).cursor = .pos0 ∧ (Machine.taken st s).pending = true := by
        obtain ⟨r, rfl⟩ | rfl := hst
        · exact ⟨hc, hp⟩
        · exact ⟨(txByte_cursor s).trans hc, (txByte_pending s).trans hp⟩
      rw [feed_cons, if_pos he]
      exact ih (h.taken hst) hcursor.1 hcursor.2 hsts hrun

end SameOutput

theorem wireBytes_map_tx (bs : List Byte) : wireBytes (bs.map .tx) = bs := by
  simp [wireBytes, List.filterMap_map]

theorem driverEvents_map_tx (bs : List Byte) : driverEvents (bs.map .tx) = [] := by
  simp [driverEvents]

/-- Settles O51: the frame makes the command pending; its service is the uninterrupted one, with reception steps that
change no output among it; and `retire` ends it. -/
theorem commandIsServedWhole : Obligations.CommandIsServedWhole := by
  intro s c v i sts hc hp hd hsts
  have hframe := feed_commandFrame c hc hp
  obtain ⟨u, hserve, hcursor, hcbuf, hphase, htrace⟩ := feed_serve (s := s.received c) v i rfl hd
  have hkind : ∀ st ∈ sts.filter (fun st => !st.isReception), (∃ r, st = .dispatch r) ∨ st = .tx := by
    simp [hsts]
  obtain ⟨w, hw, hout⟩ := (SameOutput.refl _).feed rfl rfl hkind (hsts ▸ hserve)
  obtain ⟨hwcursor, hwcbuf, hwphase⟩ : w.cursor = .pos0 ∧ w.cbuf = ⟨0x80, c, 0xFF⟩ ∧ w.dphase = .retire := by
    rw [hout.regs]
    exact ⟨hcursor, hcbuf, hphase⟩
  have hretire : feed [.retire] w = .next (taken .retire w) := by
    rw [feed_cons, if_pos (by simp [enabled, hwphase]), feed_nil]
  refine ⟨taken .retire w, ?_, ?_, ?_, hwcursor, rfl, rfl, hwcbuf⟩
  · rw [List.append_assoc]
    exact (feed_append hframe).trans ((feed_append hw).trans hretire)
  · change wireBytes w.trace = _
    rw [hout.wire, htrace]
    simp [wireBytes_append, wireBytes_received, wireBytes_responseEvents, wireBytes_map_tx]
  · change driverEvents w.trace = _
    rw [hout.driver, htrace]
    simp [driverEvents_append, driverEvents_received, driverEvents_responseEvents, driverEvents_map_tx]

/-! ## The ports (R25, R46, R55) -/

@[simp] theorem txByte_trace (s : State) : (txByte s).trace = s.trace ++ [.tx (s.rbuf.get s.txidx)] := by
  obtain ⟨-, h⟩ | ⟨-, h⟩ := txByte_cases s <;> rw [h]

/-- Settles O57: `tx_data` is `rbuf[txidx]`, which `tx_byte` sends and a received byte leaves alone. -/
theorem txDataIsTheByteHandedOver : Obligations.TxDataIsTheByteHandedOver := by
  intro s hvalid
  have hd : s.dphase = .send := by simpa using hvalid
  refine ⟨txByte s, ?_, ?_, fun b u hu => ?_⟩
  · rw [step_offer, if_pos (by simp [enabled, hd])]
    rfl
  · rw [txByte_trace, levels_txData hd]
  · obtain ⟨-, rfl⟩ := step_next hu
    obtain ⟨hrbuf, hdphase, htxidx, -⟩ := acceptByte_frame b s
    have hsend : (acceptByte b s).1.dphase = .send := hdphase.trans hd
    simp only [choose_offer, taken]
    rw [levels_txValid, levels_txData hsend, levels_txData hd, hrbuf, htxidx, hsend]
    exact ⟨rfl, rfl⟩

/-- Choosing shows nothing on the ports. -/
theorem stepCycles_choose (s t : State) : stepCycles (choose s).2 t = stepCycles s t := by
  simp only [stepCycles, choose_trace]

/-- A received byte is one cycle, with the code of its FrameEvent, and `wake` with `FrameReady`. -/
theorem stepCycles_rx (b : Byte) (s : State) : ∃ e es, (taken (.rx b) s).trace = s.trace ++ .frame e :: es ∧
    stepCycles s (taken (.rx b) s) = [{ Pulses.quiet with evt := some e.code, wake := e == .frameReady }] := by
  obtain ⟨es, htrace, hes⟩ := taken_trace (.rx b) s
  rw [stepCycles_eq htrace, htrace]
  obtain ⟨rfl, -⟩ | ⟨-, h⟩ | ⟨rfl | rfl, -⟩ | ⟨-, r, h⟩ | ⟨-, h⟩ := hes
  · exact ⟨.frameReady, [.wake], rfl, rfl⟩
  · simp at h
  · exact ⟨.continue_, [], rfl, rfl⟩
  · exact ⟨.frameDiscarded, [], rfl, rfl⟩
  · cases h
  · cases h

theorem wake_notMem_responseEvents (c : Byte) : Event.wake ∉ responseEvents c := by
  obtain h | ⟨a, h⟩ | ⟨x, y, h⟩ := responseEvents_cases c <;> simp [h]

/-- A dispatch pulses R72's calls, one a cycle. -/
theorem stepCycles_dispatch (r : Option (Reading × Reading)) (s : State) :
    stepCycles s (taken (.dispatch r) s) = (responseEvents s.cbuf.cmd).map Event.pulses := by
  have htrace : (taken (.dispatch r) s).trace = s.trace ++ responseEvents s.cbuf.cmd := by
    rw [← eventsOf_decodeOpcode]
    rfl
  rw [stepCycles_eq htrace, portCycles_map (wake_notMem_responseEvents _)]

/-- A step that is neither a received byte nor a dispatch pulses nothing. -/
theorem stepCycles_quiet {st : Stimulus} (hrx : ∀ b, st ≠ .rx b) (hdispatch : ∀ r, st ≠ .dispatch r) (s : State) :
    ∀ p ∈ stepCycles s (taken st s), p = Pulses.quiet := by
  obtain ⟨es, htrace, hes⟩ := taken_trace st s
  rw [stepCycles_eq htrace]
  obtain ⟨-, h, -⟩ | ⟨rfl, -⟩ | ⟨-, b, h⟩ | ⟨-, r, h⟩ | ⟨rfl, -⟩ := hes
  · exact absurd h (hrx _)
  · simp [portCycles]
  · exact absurd h (hrx b)
  · exact absurd h (hdispatch r)
  · simp [portCycles, Event.pulses]

/-- Each call of R24 raises its own line only. -/
theorem actCount_pulses_le_one (e : Event) : e.pulses.actCount ≤ 1 := by
  cases e with
  | act a => cases a <;> decide
  | read | tx | wake | frame => exact Nat.zero_le 1

/-- No cycle of a step has two action lines high. -/
theorem actCount_stepCycles_le_one (st : Stimulus) (s : State) : ∀ p ∈ stepCycles s (taken st s), p.actCount ≤ 1 := by
  have hquiet : Pulses.quiet.actCount ≤ 1 := by decide
  intro p hp
  cases st with
  | rx b =>
    obtain ⟨e, es, -, hcycle⟩ := stepCycles_rx b s
    rw [hcycle, List.mem_singleton] at hp
    rw [hp]
    exact hquiet
  | dispatch r =>
    rw [stepCycles_dispatch, List.mem_map] at hp
    obtain ⟨e, -, rfl⟩ := hp
    exact actCount_pulses_le_one e
  | tx | retire | reset | idle =>
    rw [stepCycles_quiet (by simp) (by simp) s p hp]
    exact hquiet

/-- Settles O58: the cycles of the chosen step, taken after the choice, which shows nothing. -/
theorem stepCyclesFollowThePorts : Obligations.StepCyclesFollowThePorts := by
  intro s t h
  obtain ⟨-, rfl⟩ := step_next h
  rw [← stepCycles_choose s, ← choose_trace s, ← choose_cbuf s]
  refine ⟨fun b hst => ?_, fun r hst => ?_, fun hrx hdispatch => ?_, ?_⟩
  · rw [hst]
    exact stepCycles_rx b _
  · rw [hst]
    exact stepCycles_dispatch r _
  · exact stepCycles_quiet hrx hdispatch _
  · exact actCount_stepCycles_le_one _ _

end Sys2Proof.Machine

/-! SUPPORT. The encoding statements (spec/30_encoding.md R36 to R46): command frames as three bytes and as one word,
the rows of the opcode table, the response every command builds, and the port codes. -/

namespace Sys2Proof.Machine

/-! ## Three bytes (R36, R42, R43) -/

/-- Settles O1: both markers are in place, and on the opcode byte the decoder inverts the encoder. -/
theorem decodeInvertsEncode : Obligations.DecodeInvertsEncode := fun _ _ hwf =>
  decodeBytes_ok_iff.mpr ⟨rfl, rfl, (decodeOpcode_opcode hwf).symm, rfl⟩

/-- R43: fewer than three bytes are no frame. -/
theorem decodeBytes_of_length_lt {bs : List Byte} (h : bs.length < 3) : decodeBytes bs = .error .truncated := by
  match bs with
  | [] | [_] | [_, _] => rfl
  | _ :: _ :: _ :: _ => simp only [List.length_cons] at h; omega

/-- Settles O2: what decodes has at least three bytes, so `decodeBytes_ok_iff` names each of them. -/
theorem encodeInvertsDecode : Obligations.EncodeInvertsDecode := by
  intro bs rest i h
  match bs with
  | b0 :: b1 :: b2 :: rest' =>
    obtain ⟨rfl, rfl, rfl, rfl⟩ := decodeBytes_ok_iff.mp h
    exact ⟨by rw [encode, opcode_decodeOpcode]; rfl, wellFormed_decodeOpcode b1⟩
  | [] | [_] | [_, _] => cases h

/-- Settles O5: the opcode byte never decides, since every value of it decodes. -/
theorem onlyMarkersDecideFrameValidity : Obligations.OnlyMarkersDecideFrameValidity := by
  refine ⟨fun b0 b1 b2 rest => ⟨fun ⟨i, h⟩ => ?_, fun ⟨hsync, hend⟩ => ?_⟩, fun bs => decodeBytes_of_length_lt⟩
  · obtain ⟨hsync, hend, -⟩ := decodeBytes_ok_iff.mp h
    exact ⟨hsync, hend⟩
  · exact ⟨decodeOpcode b1, decodeBytes_ok_iff.mpr ⟨hsync, hend, rfl, rfl⟩⟩

/-! ## The default row (R41) -/

/-- An opcode selects the default row exactly when UNKNOWN of it is a command. -/
theorem decodeOpcode_eq_unknown_iff (c : Byte) : decodeOpcode c = .unknown c ↔ (Instr.unknown c).wellFormed = true :=
  ⟨fun h => h ▸ wellFormed_decodeOpcode c, fun h => decodeOpcode_opcode h⟩

/-- The values outside the seven opcodes. -/
theorem wellFormed_unknown_iff (c : Byte) : (Instr.unknown c).wellFormed = true ↔ c = 0x00 ∨ 0x08 ≤ c := by
  revert c; decide

/-- The opcode value `n` selects the default row. -/
def isUnknownOpcode (n : Nat) : Bool := decodeOpcode (BitVec.ofNat 8 n) = .unknown (BitVec.ofNat 8 n)

/-- All 248 values from 0x08 select the default row. -/
theorem isUnknownOpcode_eight_add {k : Nat} (hk : k < 248) : isUnknownOpcode (8 + k) = true := by
  have hle : (0x08 : Byte) ≤ BitVec.ofNat 8 (8 + k) := by
    rw [BitVec.le_def, BitVec.toNat_ofNat, Nat.mod_eq_of_lt (by omega)]
    exact Nat.le_add_right 8 k
  exact decide_eq_true
    ((decodeOpcode_eq_unknown_iff _).mpr ((wellFormed_unknown_iff _).mpr (.inr hle)))

/-- Settles O6: of the first eight values only 0x00 is unknown, and the other 248 all are. -/
theorem unknownOpcodesAreTheOther249 : Obligations.UnknownOpcodesAreTheOther249 := by
  refine ⟨fun c => (decodeOpcode_eq_unknown_iff c).trans (wellFormed_unknown_iff c), ?_⟩
  have hlow : (List.range 8).filter isUnknownOpcode = [0] := by decide
  have hhigh : ((List.range 248).map (8 + ·)).filter isUnknownOpcode = (List.range 248).map (8 + ·) := by
    simpa [List.filter_eq_self] using fun k => isUnknownOpcode_eight_add
  change ((List.range (8 + 248)).filter isUnknownOpcode).length = 249
  rw [List.range_add, List.filter_append, hlow, hhigh, List.length_append, List.length_map, List.length_range]
  rfl

/-! ## A frame as one word (R38) -/

/-- R38: `{sync, cmd, end}`. -/
def CommandFrame.word (f : CommandFrame) : BitVec 24 := f.sync ++ f.cmd ++ f.endMark

/-- The word of a command is the word of its frame. -/
theorem encodeWord_eq (i : Instr) : encodeWord i = CommandFrame.word ⟨Config.sync, i.opcode, Config.endMark⟩ := rfl

theorem toNat_word (f : CommandFrame) :
    f.word.toNat = f.sync.toNat * 65536 + f.cmd.toNat * 256 + f.endMark.toNat := by
  simp only [CommandFrame.word, BitVec.toNat_append]
  rw [← Nat.shiftLeft_add_eq_or_of_lt f.cmd.isLt, ← Nat.shiftLeft_add_eq_or_of_lt f.endMark.isLt]
  omega

/-- A frame is read back from its word. -/
theorem frameOfWord_word (f : CommandFrame) : frameOfWord 24 f.word.toNat = f := by
  obtain ⟨a, b, c⟩ := f
  simp only [frameOfWord, toNat_word, CommandFrame.mk.injEq]
  refine ⟨?_, ?_, ?_⟩ <;> apply BitVec.eq_of_toNat_eq <;> simp only [BitVec.toNat_ofNat] <;> omega

/-- Every word is the word of the frame read from it. -/
theorem word_frameOfWord (w : BitVec 24) : (frameOfWord 24 w.toNat).word = w := by
  apply BitVec.eq_of_toNat_eq
  simp only [toNat_word, frameOfWord, BitVec.toNat_ofNat]
  omega

theorem word_inj {f g : CommandFrame} : f.word = g.word ↔ f = g :=
  ⟨fun h => by rw [← frameOfWord_word f, h, frameOfWord_word], fun h => h ▸ rfl⟩

theorem extractLsb'_word (f : CommandFrame) : f.word.extractLsb' 8 8 = f.cmd := by
  apply BitVec.eq_of_toNat_eq
  simp only [BitVec.extractLsb'_toNat, toNat_word, Nat.shiftRight_eq_div_pow]
  omega

/-- The default row's mask keeps the markers and clears the opcode. -/
theorem word_and_defaultMask (f : CommandFrame) :
    f.word &&& 0xFF00FF = CommandFrame.word ⟨f.sync, 0, f.endMark⟩ := by
  have hbytes : (f.sync ++ f.cmd ++ f.endMark) &&& (BitVec.allOnes 8 ++ 0#8 ++ BitVec.allOnes 8) =
      f.sync ++ 0#8 ++ f.endMark := by
    simp only [BitVec.and_append, BitVec.and_allOnes, BitVec.and_zero]
  exact hbytes

/-- The default row's match is met exactly by the words with both markers in place. -/
theorem word_and_defaultMask_eq_iff (f : CommandFrame) :
    f.word &&& 0xFF00FF = 0x8000FF ↔ f.sync = Config.sync ∧ f.endMark = Config.endMark := by
  have hmatch : (0x8000FF : BitVec 24) = CommandFrame.word ⟨Config.sync, 0, Config.endMark⟩ := rfl
  rw [word_and_defaultMask, hmatch, word_inj]
  simp

/-- The decoder on the word of a frame: the markers decide, then the opcode selects. -/
theorem decodeTableWord_word (f : CommandFrame) : decodeTableWord 24 f.word.toNat =
    if f.sync = Config.sync ∧ f.endMark = Config.endMark then some (decodeOpcode f.cmd) else none := by
  by_cases hsync : f.sync = Config.sync <;> by_cases hend : f.endMark = Config.endMark <;>
    simp [decodeTableWord, frameOfWord_word, CommandFrame.serialize, decodeBytes, hsync, hend]

/-! ## The rows of the opcode table (R38, R39) -/

/-- Each opcode row is matched by the word of its command and by no other, its mask being full. -/
theorem hits_iff_of_mem {r : OpcodeRow} (hr : r ∈ opcodeRows) (w : BitVec 24) :
    r.hits w = true ↔ w = encodeWord r.instr := by
  have hrow : ∀ r ∈ opcodeRows, r.mask = BitVec.allOnes 24 ∧ r.pattern = encodeWord r.instr := by decide
  obtain ⟨hmask, hpattern⟩ := hrow r hr
  rw [OpcodeRow.hits, hmask, hpattern, BitVec.and_allOnes, beq_iff_eq]

/-- The opcode rows hold no command of the default row. -/
theorem wellFormed_of_mem_opcodeRows : ∀ r ∈ opcodeRows, r.instr.wellFormed = true := by decide

/-- An opcode has a row, or selects the default row. -/
theorem decodeOpcode_cases (c : Byte) : (∃ r ∈ opcodeRows, r.instr = decodeOpcode c) ∨ decodeOpcode c = .unknown c := by
  cases h : decodeOpcode c with
  | unknown d =>
    have hopcode := opcode_decodeOpcode c
    rw [h] at hopcode
    exact .inr (congrArg Instr.unknown hopcode)
  | ping | dcOn | dcOff | battOn | battOff | measDc | measBatt => exact .inl (by decide)

/-- The decoder on the word of a well-formed command. -/
theorem decodeTableWord_encodeWord {i : Instr} (hwf : i.wellFormed = true) :
    decodeTableWord 24 (encodeWord i).toNat = some i := by
  rw [encodeWord_eq, decodeTableWord_word, if_pos ⟨rfl, rfl⟩, decodeOpcode_opcode hwf]

/-- Settles O3: where a row matches, the word is that row's command; where none does, the markers decide, and a framed
opcode without a row is the default row's. -/
theorem decoderSelectsMatchMaskRow : Obligations.DecoderSelectsMatchMaskRow := by
  refine ⟨frameOfWord_word, fun w => ?_⟩
  unfold selectRow
  split
  next r hfind =>
    have hr := List.mem_of_find?_eq_some hfind
    have hhits := List.find?_some hfind
    rw [(hits_iff_of_mem hr w).mp hhits, decodeTableWord_encodeWord (wellFormed_of_mem_opcodeRows r hr)]
  next hfind =>
    rw [List.find?_eq_none] at hfind
    obtain ⟨f, rfl⟩ : ∃ f : CommandFrame, f.word = w := ⟨_, word_frameOfWord w⟩
    simp only [decodeTableWord_word, word_and_defaultMask_eq_iff, extractLsb'_word]
    split
    next hframed =>
      obtain ⟨r, hr, hrow⟩ | hunknown := decodeOpcode_cases f.cmd
      · refine absurd ((hits_iff_of_mem hr f.word).mpr ?_) (hfind r hr)
        rw [hrow, encodeWord_eq, opcode_decodeOpcode, ← hframed.1, ← hframed.2]
      · rw [hunknown]
    next => rfl

/-- Settles O4. -/
theorem tableWordsDecode : Obligations.TableWordsDecode := by
  unfold Obligations.TableWordsDecode
  decide

/-! ## The response of every command (R37, R59) -/

/-- Settles O29: the response is built from the opcode and the payload, and the payload depends on the readings only. -/
theorem everyResponseIsFreshAndFramed : Obligations.EveryResponseIsFreshAndFramed := by
  intro i s u
  refine ⟨_, _, exec_eq i s, exec_eq i u, rfl, rfl, rfl, fun hmeas hdraws => ?_⟩
  exact congrArg (buildResponse i.opcode) (payloadOf_congr hmeas hdraws i)

/-! ## A dispatch runs the command it selects (R58) -/

/-- An enabled dispatch step is `exec` of the opcode in `cbuf`, with the readings of the stimulus. -/
theorem step_offer_dispatch {s : State} (r : Option (Reading × Reading)) (hp : s.pending = true)
    (hd : s.dphase = .idle) :
    step (s.offer (.dispatch r)) = exec (decodeOpcode s.cbuf.cmd) { s with measData := r } := by
  rw [step_offer, if_pos (by simp [enabled, hp, hd]), exec_eq, opcode_decodeOpcode]
  rfl

/-- Settles O19: the placed word is an offered dispatch with the command's frame in `cbuf`. -/
theorem fetchWordRunsInstruction : Obligations.FetchWordRunsInstruction := by
  intro s i hwf
  have hplaced : s.withFetchWord 24 (encodeWord i).toNat = State.offer { s with
      cursor := .pos0, cbuf := ⟨0x80, i.opcode, 0xFF⟩, pending := true, dphase := .idle } (.dispatch none) := by
    rw [State.withFetchWord, encodeWord_eq, frameOfWord_word]
    rfl
  rw [hplaced, step_offer_dispatch none rfl rfl, decodeOpcode_opcode hwf]

/-! ## The port codes (R25, R46) -/

/-- Settles O56. -/
theorem portCodesFollowTheSpec : Obligations.PortCodesFollowTheSpec := by
  have hthree : ∀ e : FrameEvent, e.code ≠ 3 := by
    intro e
    cases e <;> decide
  exact ⟨rfl, rfl, rfl, hthree, rfl, rfl, rfl, rfl, actCount_pulses_le_one⟩

end Sys2Proof.Machine

/-! SUPPORT. The reassembler statements (spec/40_reassembler.md R47 to R57): what each received byte does, which step
completes a frame and wakes the idle loop, and which step moves the cursor. -/

namespace Sys2Proof.Machine

/-! ## One received byte, case by case (R48 to R53) -/

/-- R47: a received byte is always taken. -/
theorem step_offer_rx (b : Byte) (s : State) : step (s.offer (.rx b)) = .next (taken (.rx b) s) :=
  step_offer s (.rx b)

/-- R50: a byte that opens no frame is dropped. -/
theorem taken_rx_dropped {s : State} {b : Byte} (hc : s.cursor = .pos0) (h : s.pending = true ∨ b ≠ Config.sync) :
    taken (.rx b) s = { s with trace := s.trace ++ [.frame .frameDiscarded] } := by
  obtain ⟨-, hp, hb, -⟩ | ⟨-, -, heq⟩ | ⟨hc', -⟩ | ⟨hc', -⟩ | ⟨hc', -⟩ := acceptByte_cases b s
  · simp [hp, hb] at h
  · rw [taken, heq]
  all_goals simp [hc'] at hc

/-- R53: a byte other than the end marker at cursor 2 abandons the frame. -/
theorem taken_rx_badEnd {s : State} {b : Byte} (hc : s.cursor = .pos2) (hb : b ≠ Config.endMark) :
    taken (.rx b) s = { s with cursor := .pos0, trace := s.trace ++ [.frame .frameDiscarded] } := by
  obtain ⟨hc', -⟩ | ⟨hc', -⟩ | ⟨hc', -⟩ | ⟨-, hend, -⟩ | ⟨-, -, heq⟩ := acceptByte_cases b s
  case inr.inr.inr.inl => exact absurd hend hb
  case inr.inr.inr.inr => rw [taken, heq]
  all_goals simp [hc'] at hc

/-- Settles O7. -/
theorem syncByteOpensFrame : Obligations.SyncByteOpensFrame := fun s hc hp =>
  (step_offer_rx _ s).trans (congrArg _ (taken_rx_sync hc hp))

/-- Settles O8. -/
theorem byteAtCursorZeroIsDropped : Obligations.ByteAtCursorZeroIsDropped := fun s b hc h =>
  (step_offer_rx b s).trans (congrArg _ (taken_rx_dropped hc h))

/-- Settles O9. -/
theorem anyByteIsStoredAsOpcode : Obligations.AnyByteIsStoredAsOpcode := fun s b hc =>
  (step_offer_rx b s).trans (congrArg _ (taken_rx_opcode b hc))

/-- Settles O11. -/
theorem badEndMarkerAbandonsFrame : Obligations.BadEndMarkerAbandonsFrame := fun s b hc hb =>
  (step_offer_rx b s).trans (congrArg _ (taken_rx_badEnd hc hb))

/-! ## What a received byte depends on (R47) -/

/-- The cursor, the flag and the byte select one of R49 to R53, the same one in every state that has them. -/
theorem step_offer_rx_uniform (c : Cursor) (p : Bool) (b : Byte) :
    ∃ (cursor : Cursor) (pending : Bool) (store : CommandFrame → CommandFrame) (e : FrameEvent) (es : List Event),
      (∀ s : State, s.cursor = c → s.pending = p → step (s.offer (.rx b)) = .next { s with
        cursor := cursor, pending := pending, cbuf := store s.cbuf, trace := s.trace ++ .frame e :: es }) ∧
      (es = [] ∨ es = [.wake]) ∧
      ((∀ f, store f = f) ∨ (c = .pos0 ∧ ∀ f, store f = { f with sync := b }) ∨
        (c = .pos1 ∧ ∀ f, store f = { f with cmd := b }) ∨ (c = .pos2 ∧ ∀ f, store f = { f with endMark := b })) := by
  simp only [step_offer_rx]
  cases c with
  | pos0 =>
    by_cases hdrop : p = true ∨ b ≠ Config.sync
    · refine ⟨.pos0, p, id, .frameDiscarded, [], fun s hc hp => ?_, .inl rfl, .inl fun _ => rfl⟩
      rw [taken_rx_dropped hc (hp ▸ hdrop), ← hc, ← hp, id]
    · obtain ⟨rfl, rfl⟩ : p = false ∧ b = Config.sync := by simpa using hdrop
      refine ⟨.pos1, false, fun f => { f with sync := Config.sync }, .continue_, [], fun s hc hp => ?_, .inl rfl,
        .inr (.inl ⟨rfl, fun _ => rfl⟩)⟩
      rw [taken_rx_sync hc hp, ← hp]
  | pos1 =>
    refine ⟨.pos2, p, fun f => { f with cmd := b }, .continue_, [], fun s hc hp => ?_, .inl rfl,
      .inr (.inr (.inl ⟨rfl, fun _ => rfl⟩))⟩
    rw [taken_rx_opcode b hc, ← hp]
  | pos2 =>
    by_cases hb : b = Config.endMark
    · subst hb
      exact ⟨.pos0, true, fun f => { f with endMark := Config.endMark }, .frameReady, [.wake],
        fun s hc _ => congrArg _ (taken_rx_endMark hc), .inr rfl, .inr (.inr (.inr ⟨rfl, fun _ => rfl⟩))⟩
    · refine ⟨.pos0, p, id, .frameDiscarded, [], fun s hc hp => ?_, .inl rfl, .inl fun _ => rfl⟩
      rw [taken_rx_badEnd hc hb, ← hp, id]

/-- Settles O12: the one selected effect, in each of the two states. -/
theorem acceptByteDependsOnCursorPendingAndByte : Obligations.AcceptByteDependsOnCursorPendingAndByte := by
  intro b s u hc hp
  obtain ⟨cursor, pending, store, e, es, hstep, hes, hstore⟩ := step_offer_rx_uniform s.cursor s.pending b
  exact ⟨cursor, pending, store, e, es, hstep s rfl rfl, hstep u hc hp, hes, hstore⟩

/-! ## The step that completes a frame (R52, R55) -/

theorem frame_notMem_responseEvents (e : FrameEvent) (c : Byte) : Event.frame e ∉ responseEvents c := by
  obtain h | ⟨a, h⟩ | ⟨x, y, h⟩ := responseEvents_cases c <;> simp [h]

/-- The end marker at cursor 2 appends `FrameReady` and `Wake`; no other step appends either. -/
theorem taken_trace_frameReady (st : Stimulus) (s : State) : ∃ es, (taken st s).trace = s.trace ++ es ∧
    ((es = [.frame .frameReady, .wake] ∧ st = .rx Config.endMark ∧ s.cursor = .pos2) ∨
      (Event.frame .frameReady ∉ es ∧ Event.wake ∉ es)) := by
  obtain ⟨es, htrace, hes⟩ := taken_trace st s
  refine ⟨es, htrace, hes.imp_right fun hother => ?_⟩
  obtain ⟨rfl, -⟩ | ⟨rfl | rfl, -⟩ | ⟨rfl, -⟩ | ⟨rfl, -⟩ := hother
  · simp
  · simp
  · simp
  · exact ⟨frame_notMem_responseEvents _ _, wake_notMem_responseEvents _⟩
  · simp

/-- The end marker at cursor 2 is the one setter of `pending`. -/
theorem endMark_of_taken_pending {st : Stimulus} {s : State} (hp : s.pending = false)
    (ht : (taken st s).pending = true) : st = .rx Config.endMark ∧ s.cursor = .pos2 := by
  cases st with
  | rx b =>
    obtain ⟨-, -, -, h⟩ | ⟨-, -, h⟩ | ⟨-, h⟩ | ⟨hc, rfl, -⟩ | ⟨-, -, h⟩ := acceptByte_cases b s
    case inr.inr.inr.inl => exact ⟨rfl, hc⟩
    all_goals simp [taken, h, hp] at ht
  | dispatch | tx | retire | reset | idle => simp [taken, hp] at ht

/-- Settles O10: R52's effect, and that no other step raises the flag or emits `FrameReady`. -/
theorem endMarkerCompletesFrame : Obligations.EndMarkerCompletesFrame := by
  refine ⟨fun s hc => (step_offer_rx _ s).trans (congrArg _ (taken_rx_endMark hc)), fun s t es h htrace hor => ?_⟩
  obtain ⟨-, rfl⟩ := step_next h
  rw [← choose_cursor s]
  obtain ⟨hp, ht⟩ | hready := hor
  · exact endMark_of_taken_pending (by simpa using hp) ht
  · obtain ⟨es', htrace', hes⟩ := taken_trace_frameReady (choose s).1 (choose s).2
    obtain rfl : es = es' := by simpa [htrace] using htrace'
    obtain ⟨-, hst, hc⟩ | ⟨hnot, -⟩ := hes
    · exact ⟨hst, hc⟩
    · exact absurd hready hnot

/-- Settles O13: a step appends `FrameReady` and `Wake`, in this order, or neither. -/
theorem wakeExactlyOnFrameReady : Obligations.WakeExactlyOnFrameReady := by
  intro s t h
  obtain ⟨-, rfl⟩ := step_next h
  obtain ⟨es, htrace, hes⟩ := taken_trace_frameReady (choose s).1 (choose s).2
  refine ⟨es, by simpa using htrace, ?_⟩
  obtain ⟨rfl, -⟩ | ⟨hready, hwake⟩ := hes
  · decide
  · simp [List.count_eq_zero_of_not_mem hready, List.count_eq_zero_of_not_mem hwake, hwake]

/-! ## The cursor (R56, R57) -/

/-- Settles O15: what is no received byte and no reset leaves the cursor alone. -/
theorem cursorMovesOnlyOnReceivedBytes : Obligations.CursorMovesOnlyOnReceivedBytes := by
  intro s t h hne
  obtain ⟨-, rfl⟩ := step_next h
  by_contra hother
  obtain ⟨hb, hr⟩ := not_or.mp hother
  have hst := isService_of_ne (not_exists.mp hb) (not_exists.mp hr)
  exact hne (by simpa using (taken_service_frame (choose s).2 hst).1)

/-- Service steps leave the cursor where it is. -/
theorem cursor_of_feed_service {sts : List Stimulus} {s t : State} (hsts : ∀ st ∈ sts, st.isService = true)
    (h : feed sts s = .next t) : t.cursor = s.cursor := by
  induction sts generalizing s with
  | nil => cases h; rfl
  | cons st sts ih =>
    obtain ⟨hst, hsts⟩ := List.forall_mem_cons.mp hsts
    obtain ⟨-, h⟩ := feed_cons_next h
    exact (ih hsts h).trans (taken_service_frame s hst).1

/-- The cursor reaches 1 by the sync marker at cursor 0 with nothing pending, and in no other way. -/
theorem taken_rx_cursor_eq_pos1_iff (b : Byte) (s : State) : (taken (.rx b) s).cursor = .pos1 ↔
    s.cursor = .pos0 ∧ s.pending = false ∧ b = Config.sync := by
  obtain ⟨hc, hp, hb, h⟩ | ⟨hc, hdrop, h⟩ | ⟨hc, h⟩ | ⟨hc, -, h⟩ | ⟨hc, -, h⟩ := acceptByte_cases b s
  case inr.inl => simpa [taken, h, hc, imp_iff_not_or] using hdrop
  all_goals simp_all [taken]

/-- The cursor reaches 2 by any byte at cursor 1, and in no other way. -/
theorem taken_rx_cursor_eq_pos2_iff (b : Byte) (s : State) : (taken (.rx b) s).cursor = .pos2 ↔ s.cursor = .pos1 := by
  obtain ⟨hc, -, -, h⟩ | ⟨hc, -, h⟩ | ⟨hc, h⟩ | ⟨hc, -, h⟩ | ⟨hc, -, h⟩ := acceptByte_cases b s <;> simp [taken, h, hc]

/-- A received byte leaves `FrameReady` and `Wake` at the end of the trace exactly when it is the end marker at
cursor 2. -/
theorem taken_rx_frameReady_iff (b : Byte) (s : State) :
    (∃ tr, (taken (.rx b) s).trace = tr ++ [.frame .frameReady, .wake]) ↔ s.cursor = .pos2 ∧ b = Config.endMark := by
  have hlast (e : FrameEvent) (tr : List Event) : s.trace ++ [.frame e] ≠ tr ++ [.frame .frameReady, .wake] :=
    fun heq => by simpa using congrArg List.getLast? heq
  obtain ⟨hc, -, -, h⟩ | ⟨hc, -, h⟩ | ⟨hc, h⟩ | ⟨hc, hb, h⟩ | ⟨-, hb, h⟩ := acceptByte_cases b s
  case inr.inr.inr.inl => exact ⟨fun _ => ⟨hc, hb⟩, fun _ => ⟨s.trace, by rw [taken, h]⟩⟩
  case inr.inr.inr.inr => simp [taken, h, hb, hlast]
  all_goals simp [taken, h, hc, hlast]

/-- One byte, then service steps. -/
theorem feed_rx_service {b : Byte} {sts rest : List Stimulus} {s t : State} (hsts : ∀ st ∈ sts, st.isService = true)
    (h : feed (.rx b :: (sts ++ rest)) s = .next t) :
    ∃ u, u.cursor = (taken (.rx b) s).cursor ∧ feed rest u = .next t := by
  obtain ⟨-, h⟩ := feed_cons_next h
  obtain ⟨u, hu, hrest⟩ := feed_append_next h
  exact ⟨u, cursor_of_feed_service hsts hu, hrest⟩

/-- Settles O14, read backwards from the third byte: it finds the cursor at 2 exactly when the second found it at 1, and
that exactly when the first opened a frame; the service steps between them keep the cursor. -/
theorem frameReadyExactlyAfterSyncAnyEnd : Obligations.FrameReadyExactlyAfterSyncAnyEnd := by
  intro s t b0 b1 b2 us vs hus hvs h
  simp only [List.append_assoc, List.singleton_append] at h
  obtain ⟨u, hu, h⟩ := feed_rx_service hus h
  obtain ⟨v, hv, h⟩ := feed_rx_service hvs h
  obtain ⟨-, h⟩ := feed_cons_next h
  cases h
  rw [taken_rx_frameReady_iff, hv, taken_rx_cursor_eq_pos2_iff, hu, taken_rx_cursor_eq_pos1_iff, and_assoc, and_assoc]
  rfl

end Sys2Proof.Machine

/-! SUPPORT. The dispatcher statements (spec/41_dispatcher.md R58 to R72): which command a dispatch runs, what each of
the eight commands answers, and one dispatch for each completed frame. -/

namespace Sys2Proof.Machine

/-! ## The bytes of a reading (R27, R68) -/

theorem toNat_hiByte (r : Reading) : (hiByte r).toNat = r.toNat / 256 := by
  rw [hiByte_eq, BitVec.toNat_ofNat]
  omega

theorem toNat_loByte (r : Reading) : (loByte r).toNat = r.toNat % 256 := by
  rw [loByte_eq, BitVec.toNat_ofNat]
  omega

/-- Settles O30: the joined bytes are 256 times the quotient plus the remainder. -/
theorem readingSplitsIntoTwoBytes : Obligations.ReadingSplitsIntoTwoBytes := by
  refine fun r => ⟨toNat_hiByte r, toNat_loByte r, ?_⟩
  apply BitVec.eq_of_toNat_eq
  rw [BitVec.toNat_append, ← Nat.shiftLeft_add_eq_or_of_lt (loByte r).isLt, toNat_hiByte, toNat_loByte]
  omega

/-! ## What a dispatch runs (R58, R72) -/

/-- Settles O18: framed bytes decode to the command their opcode selects, and that is the one a dispatch runs. -/
theorem stepRunsDecodedInstruction : Obligations.StepRunsDecodedInstruction := by
  intro s i r hp hd hdecode
  obtain ⟨-, -, rfl, -⟩ := decodeBytes_ok_iff.mp hdecode
  exact step_offer_dispatch r hp hd

/-- Every command completes; its response is read off its opcode and payload, and it leaves the rest of the state
alone. -/
theorem exec_answers (i : Instr) {s : State} {bytes : List Byte}
    (hbytes : (buildResponse i.opcode (payloadOf i s)).serialize = bytes) :
    ∃ t, exec i s = .next t ∧ t.rbuf.serialize = bytes ∧
      t = { s with rbuf := t.rbuf, txidx := 0, dphase := .send, trace := s.trace ++ eventsOf i,
                   draws := s.draws + drawsOf i } :=
  ⟨_, exec_eq i s, hbytes, rfl⟩

/-- Settles O20: the dispatch runs the well-formed command its opcode selects, whose bytes and events are R72's. -/
theorem dispatchBuildsResponse : Obligations.DispatchBuildsResponse := by
  intro s v i hp hd
  have hbytes := serialize_buildResponse (s := { s with measData := some (v, i) })
    (wellFormed_decodeOpcode s.cbuf.cmd) rfl
  obtain ⟨t, hexec, hresponse, hframe⟩ := exec_answers (decodeOpcode s.cbuf.cmd) hbytes
  rw [opcode_decodeOpcode] at hresponse
  rw [eventsOf_decodeOpcode] at hframe
  refine ⟨t, (step_offer_dispatch _ hp hd).trans hexec, hresponse, ?_⟩
  rw [hframe]

/-! ## The commands that read nothing (R60 to R64, R67) -/

/-- A command without driver events writes the response and starts sending. -/
theorem exec_answers_silently {i : Instr} (hevents : eventsOf i = []) (hdraws : drawsOf i = 0) {s : State}
    {bytes : List Byte} (hbytes : (buildResponse i.opcode (payloadOf i s)).serialize = bytes) :
    ∃ t, exec i s = .next t ∧ t.rbuf.serialize = bytes ∧
      t = { s with rbuf := t.rbuf, txidx := 0, dphase := .send } := by
  have h := exec_answers i hbytes
  rwa [hevents, hdraws, List.append_nil] at h

/-- Settles O21. -/
theorem pingAcknowledges : Obligations.PingAcknowledges :=
  ⟨decodeInvertsEncode .ping [] rfl, fun _ => exec_answers_silently rfl rfl rfl⟩

/-- Settles O22. -/
theorem dcOnEnablesMainSupply : Obligations.DcOnEnablesMainSupply :=
  ⟨decodeInvertsEncode .dcOn [] rfl, fun _ => exec_answers .dcOn rfl⟩

/-- Settles O23. -/
theorem dcOffDisablesMainSupply : Obligations.DcOffDisablesMainSupply :=
  ⟨decodeInvertsEncode .dcOff [] rfl, fun _ => exec_answers .dcOff rfl⟩

/-- Settles O24. -/
theorem battOnEnablesBatterySupply : Obligations.BattOnEnablesBatterySupply :=
  ⟨decodeInvertsEncode .battOn [] rfl, fun _ => exec_answers .battOn rfl⟩

/-- Settles O25. -/
theorem battOffDisablesBatterySupply : Obligations.BattOffDisablesBatterySupply :=
  ⟨decodeInvertsEncode .battOff [] rfl, fun _ => exec_answers .battOff rfl⟩

/-- Outside 0x01 to 0x07 UNKNOWN is a command. -/
theorem wellFormed_unknown_of_not_range {c : Byte} (hc : ¬(0x01 ≤ c ∧ c ≤ 0x07)) :
    (Instr.unknown c).wellFormed = true := by
  rw [wellFormed_unknown_iff]
  bv_omega

/-- Settles O28. -/
theorem unknownEchoesWithZeroPayload : Obligations.UnknownEchoesWithZeroPayload := fun c hc =>
  ⟨decodeInvertsEncode (.unknown c) [] (wellFormed_unknown_of_not_range hc),
    fun _ => exec_answers_silently rfl rfl rfl⟩

/-! ## The commands that read (R65, R66) -/

/-- R40 form MEAS: voltage then current, each high byte first. -/
theorem serialize_buildResponse_meas (c : Byte) (v i : Reading) :
    (buildResponse c (.meas v i)).serialize =
      [0x80, c, BitVec.ofNat 8 (v.toNat / 256), BitVec.ofNat 8 (v.toNat % 256),
        BitVec.ofNat 8 (i.toNat / 256), BitVec.ofNat 8 (i.toNat % 256), 0xFF] := by
  rw [← hiByte_eq, ← loByte_eq, ← hiByte_eq, ← loByte_eq]
  rfl

/-- The two readings a measurement draws are the scripted pair, or the next two free values. -/
theorem nextReading_pair {s : State} {vch ich : Channel} {v i : Reading}
    (hv : vch.pick (v, i) = v) (hi : ich.pick (v, i) = i)
    (h : s.measData = some (v, i) ∨
      s.measData = none ∧ v = Config.freeReading vch s.draws ∧ i = Config.freeReading ich (s.draws + 1)) :
    nextReading vch s = v ∧ nextReading ich { s with draws := s.draws + 1 } = i := by
  obtain hscript | ⟨hfree, rfl, rfl⟩ := h
  · simp [nextReading, hscript, hv, hi]
  · simp [nextReading, hfree]

/-- Settles O26. -/
theorem measDcReportsReadings : Obligations.MeasDcReportsReadings := by
  refine ⟨decodeInvertsEncode .measDc [] rfl, fun s v i h => exec_answers .measDc ?_⟩
  obtain ⟨hv, hi⟩ := nextReading_pair rfl rfl h
  rw [payloadOf, hv, hi]
  exact serialize_buildResponse_meas _ v i

/-- Settles O27. -/
theorem measBattReportsReadings : Obligations.MeasBattReportsReadings := by
  refine ⟨decodeInvertsEncode .measBatt [] rfl, fun s v i h => exec_answers .measBatt ?_⟩
  obtain ⟨hv, hi⟩ := nextReading_pair rfl rfl h
  rw [payloadOf, hv, hi]
  exact serialize_buildResponse_meas _ v i

/-! ## One dispatch for each completed frame (R58, R88) -/

/-- How many frames have been completed so far. -/
def framesReady (s : State) : Nat := s.trace.count (.frame .frameReady)

/-- 1 while a command is pending that no dispatch has claimed. -/
def unclaimed (s : State) : Nat := if s.pending = true ∧ s.dphase = .idle then 1 else 0

theorem unclaimed_of_not_pending {s : State} (hp : s.pending = false) : unclaimed s = 0 := by simp [unclaimed, hp]

theorem unclaimed_of_busy {s : State} (hd : s.dphase ≠ .idle) : unclaimed s = 0 := by simp [unclaimed, hd]

theorem unclaimed_of_waiting {s : State} (hp : s.pending = true) (hd : s.dphase = .idle) : unclaimed s = 1 :=
  if_pos ⟨hp, hd⟩

/-- A received byte that completes a frame leaves one more command to claim; any other leaves both counts as they are. -/
theorem framesReady_acceptByte {s : State} (hi : s.Inv) (b : Byte) :
    framesReady (acceptByte b s).1 + unclaimed s = framesReady s + unclaimed (acceptByte b s).1 := by
  obtain ⟨-, -, -, h⟩ | ⟨-, -, h⟩ | ⟨-, h⟩ | ⟨hc, -, h⟩ | ⟨-, -, h⟩ := acceptByte_cases b s <;> rw [h]
  case inr.inr.inr.inl =>
    have hp : s.pending = false := hi.cursor_pending (by simp [hc])
    have hd : s.dphase = .idle := hi.idle_of_not_pending hp
    simp [framesReady, unclaimed, hp, hd]
  all_goals simp [framesReady, unclaimed]

/-- A `tx_byte` step ends in `Send` or `Retire`. -/
theorem txByte_dphase_ne_idle {s : State} (hd : s.dphase = .send) : (txByte s).dphase ≠ .idle := by
  obtain ⟨-, h⟩ | ⟨-, h⟩ := txByte_cases s <;> simp [h, hd]

/-- The account of R58, step by step: what is completed is claimed by a dispatch or waits for one. -/
theorem framesReady_taken {s : State} {st : Stimulus} (hi : s.Inv) (he : enabled s st = true)
    (hr : ∀ lost, st ≠ .reset lost) :
    framesReady (taken st s) + unclaimed s =
      framesReady s + (if st.isDispatch then 1 else 0) + unclaimed (taken st s) := by
  cases st with
  | rx b => exact framesReady_acceptByte hi b
  | dispatch r =>
    have hready : s.pending = true ∧ s.dphase = .idle := by simpa [enabled] using he
    have hevents := List.count_eq_zero_of_not_mem (frame_notMem_responseEvents .frameReady s.cbuf.cmd)
    rw [unclaimed_of_waiting hready.1 hready.2, unclaimed_of_busy (by simp [taken])]
    simp [framesReady, taken, eventsOf_decodeOpcode, hevents, Stimulus.isDispatch]
  | tx =>
    have hd : s.dphase = .send := by simpa [enabled] using he
    rw [unclaimed_of_busy (by simp [hd]), taken, unclaimed_of_busy (txByte_dphase_ne_idle hd)]
    simp [framesReady, Stimulus.isDispatch]
  | retire =>
    have hd : s.dphase = .retire := by simpa [enabled] using he
    rw [unclaimed_of_busy (by simp [hd]), taken, unclaimed_of_not_pending rfl]
    rfl
  | reset lost => exact absurd rfl (hr lost)
  | idle => rfl

/-- The account over a run without reset. -/
theorem framesReady_feed {sts : List Stimulus} {s t : State} (hi : s.Inv) (hr : ∀ lost, Stimulus.reset lost ∉ sts)
    (h : feed sts s = .next t) :
    framesReady t + unclaimed s = framesReady s + sts.countP Stimulus.isDispatch + unclaimed t := by
  induction sts generalizing s with
  | nil => cases h; rfl
  | cons st sts ih =>
    obtain ⟨he, hrest⟩ := feed_cons_next h
    have hstep := framesReady_taken hi he fun lost hst => hr lost (by simp [hst])
    have hrun := ih (hi.taken he) (fun lost hmem => hr lost (List.mem_cons_of_mem st hmem)) hrest
    rw [List.countP_cons]
    omega

/-- Settles O53: nothing waits to be claimed at the start, so the account is the claim. -/
theorem exactlyOneDispatchPerFrameReady : Obligations.ExactlyOneDispatchPerFrameReady := by
  intro s t sts hi hp hr h
  have hrun := framesReady_feed hi hr h
  rwa [unclaimed_of_not_pending hp] at hrun

end Sys2Proof.Machine

/-! SUPPORT. The serializer statements (spec/42_serializer.md R73 to R79): the records and their bytes, the one-byte
steps, the release of the command, the stalled transport, and the whole frames on the wire. -/

namespace Sys2Proof.Machine

/-! ## Records and bytes (R26, R79) -/

@[simp] theorem length_serialize (f : ResponseFrame) : f.serialize.length = 7 := rfl

/-- Position `i` of the serialized response is `rbuf[i]`. -/
theorem getElem?_serialize (f : ResponseFrame) (i : Fin 7) : f.serialize[i.val]? = some (f.get i) := by
  fin_cases i <;> rfl

/-- Settles O37. -/
theorem recordsAndBytesAgree : Obligations.RecordsAndBytesAgree :=
  ⟨fun f => ⟨length_serialize f, getElem?_serialize f⟩, fun _ => rfl, fun _ _ _ => rfl⟩

/-! ## One byte handed over (R74, R75) -/

/-- In `Send` an offered `tx_byte` is taken. -/
theorem step_offer_tx {s : State} (hd : s.dphase = .send) : step (s.offer .tx) = .next (txByte s) := by
  rw [step_offer, if_pos (by simp [enabled, hd])]
  rfl

/-- R74: before the last byte the index advances. -/
theorem txByte_of_lt {s : State} (h : s.txidx.val < 6) :
    txByte s = { s with txidx := s.txidx + 1, trace := s.trace ++ [.tx (s.rbuf.get s.txidx)] } := by
  obtain ⟨-, heq⟩ | ⟨hlast, -⟩ := txByte_cases s
  · exact heq
  · simp [hlast] at h

/-- R75: the last byte ends sending. -/
theorem txByte_of_last {s : State} (h : s.txidx = 6) :
    txByte s = { s with dphase := .retire, trace := s.trace ++ [.tx s.rbuf.endMark] } := by
  obtain ⟨hlt, -⟩ | ⟨-, heq⟩ := txByte_cases s
  · simp [h] at hlt
  · rw [heq, h]
    rfl

/-- The index does not wrap before the last byte. -/
theorem val_txidx_add_one {s : State} (h : s.txidx.val < 6) : (s.txidx + 1).val = s.txidx.val + 1 :=
  Fin.val_add_one_of_lt h

/-- Settles O32: the byte at position `txidx` is `rbuf[txidx]`. -/
theorem txSendsNextByte : Obligations.TxSendsNextByte := by
  intro s b hd hlt hb
  obtain rfl : s.rbuf.get s.txidx = b := by simpa [getElem?_serialize] using hb
  exact ⟨_, (step_offer_tx hd).trans (congrArg _ (txByte_of_lt hlt)), val_txidx_add_one hlt, rfl⟩

/-- Settles O33: item (5) of the invariant makes the last byte the end marker. -/
theorem lastByteEndsSending : Obligations.LastByteEndsSending := by
  intro s hd hlast
  refine ⟨(step_offer_tx hd).trans (congrArg _ (txByte_of_last (Fin.ext hlast))), fun hi => ?_⟩
  obtain ⟨-, -, hend⟩ := hi.send_framed hd
  exact hend

/-! ## The seven bytes, and the release (R73, R76) -/

/-- Settles O35. -/
theorem sevenBytesAreSentInOrder : Obligations.SevenBytesAreSentInOrder := fun _ => feed_sevenTx

/-- `retire` is the one step but reset that clears `pending`. -/
theorem eq_retire_of_taken_not_pending {st : Stimulus} {s : State} (hr : ∀ lost, st ≠ .reset lost)
    (hp : s.pending = true) (ht : (taken st s).pending = false) : st = .retire := by
  cases st with
  | retire => rfl
  | reset lost => exact absurd rfl (hr lost)
  | rx b =>
    obtain ⟨-, -, -, hkeeps⟩ := acceptByte_frame b s
    simp [taken, hkeeps hp] at ht
  | dispatch | tx | idle => simp [taken, hp] at ht

/-- Settles O34: a `retire` step is enabled in `Retire` only, and no other step but reset clears the flag. -/
theorem retireReleasesCommand : Obligations.RetireReleasesCommand := by
  refine ⟨fun s hd => ?_, fun s t h hr hp ht => ?_⟩
  · rw [step_offer, if_pos (by simp [enabled, hd])]
    rfl
  · obtain ⟨he, rfl⟩ := step_next h
    have hst : (choose s).1 = .retire := eq_retire_of_taken_not_pending hr (by simpa using hp) ht
    rw [hst] at he
    exact ⟨hst, by simpa [enabled] using he⟩

/-! ## A stalled transport (R77) -/

/-- Settles O36: reception steps among no steps of the dispatcher and serializer change no output. -/
theorem stalledTransportHoldsTheBlock : Obligations.StalledTransportHoldsTheBlock := by
  intro s sts hi hd hsts
  have hp : s.pending = true := hi.served_pending (by simp [hd])
  have hnone : sts.filter (fun st => !st.isReception) = [] := by simpa [List.filter_eq_nil_iff] using hsts
  obtain ⟨t, hrun, hout⟩ := (SameOutput.refl s).feed (sts := sts) (hi.cursor_of_pending hp) hp (by simp [hnone])
    (by rw [hnone, feed_nil])
  exact ⟨t, hrun, hout.regs, hout.wire, hout.driver⟩

/-! ## Whole frames on the wire (R78) -/

/-- The host sees a byte on a `tx_byte` step only. -/
theorem wireBytes_taken {st : Stimulus} {s : State} (he : enabled s st = true) (hst : st ≠ .tx) :
    wireBytes (taken st s).trace = wireBytes s.trace := by
  have hstep : step (s.offer st) = .next (taken st s) := by rw [step_offer, if_pos he]
  obtain ⟨-, hwire⟩ := onlyDispatchDrivesAndOnlyTxSends _ _ hstep
  rw [hwire, choose_offer]
  cases st with
  | tx => exact absurd rfl hst
  | rx | dispatch | retire | reset | idle => exact List.append_nil _

/-- Both markers are in place. -/
def ResponseFrame.Framed (f : ResponseFrame) : Prop := f.sync = 0x80 ∧ f.endMark = 0xFF

/-- The bytes of the response in flight that have been handed over. -/
def bytesInFlight (s : State) : List Byte := s.rbuf.serialize.take (sentInFlight s)

theorem bytesInFlight_idle {s : State} (hd : s.dphase = .idle) : bytesInFlight s = [] := by
  simp [bytesInFlight, sentInFlight, hd]

theorem bytesInFlight_send {s : State} (hd : s.dphase = .send) :
    bytesInFlight s = s.rbuf.serialize.take s.txidx.val := by
  simp [bytesInFlight, sentInFlight, hd]

theorem bytesInFlight_retire {s : State} (hd : s.dphase = .retire) : bytesInFlight s = s.rbuf.serialize := by
  simp [bytesInFlight, sentInFlight, hd]

/-- The part in flight is never longer than a frame. -/
theorem length_bytesInFlight (s : State) : (bytesInFlight s).length = sentInFlight s := by
  have hle : sentInFlight s ≤ 7 := by
    unfold sentInFlight
    split <;> omega
  rw [bytesInFlight, List.length_take, length_serialize, Nat.min_eq_left hle]

/-- `tx_byte` adds `rbuf[txidx]` to the part in flight. -/
theorem bytesInFlight_txByte {s : State} (hd : s.dphase = .send) :
    bytesInFlight (txByte s) = bytesInFlight s ++ [s.rbuf.get s.txidx] := by
  have hnext : bytesInFlight s ++ [s.rbuf.get s.txidx] = s.rbuf.serialize.take (s.txidx.val + 1) := by
    rw [bytesInFlight_send hd, List.take_add_one, getElem?_serialize]
    rfl
  rw [hnext]
  obtain ⟨hlt, h⟩ | ⟨hlast, h⟩ := txByte_cases s
  · rw [h, ← val_txidx_add_one hlt]
    exact bytesInFlight_send hd
  · rw [h, bytesInFlight_retire rfl, hlast]
    rfl

/-- Since the bytes `base`, the frames `done` have gone out whole, then the part of the response in flight. -/
structure SentFrames (base : List Byte) (done : List ResponseFrame) (s : State) : Prop where
  /-- What the host has seen. -/
  wire : wireBytes s.trace = base ++ done.flatMap ResponseFrame.serialize ++ bytesInFlight s
  /-- The frames sent whole have their markers. -/
  framed : ∀ f ∈ done, f.Framed
  /-- So has the response in flight. -/
  framed_inFlight : s.dphase ≠ .idle → s.rbuf.Framed

namespace SentFrames

variable {base : List Byte} {done : List ResponseFrame} {s t : State}

/-- From an idle phase nothing has been sent yet. -/
theorem of_idle (hd : s.dphase = .idle) : SentFrames (wireBytes s.trace) [] s where
  wire := by simp [bytesInFlight_idle hd]
  framed := by simp
  framed_inFlight h := absurd hd h

/-- The account looks at the response side and the bytes on the wire only. -/
theorem congr (h : SentFrames base done s) (hwire : wireBytes t.trace = wireBytes s.trace) (hrbuf : t.rbuf = s.rbuf)
    (hdphase : t.dphase = s.dphase) (htxidx : t.txidx = s.txidx) : SentFrames base done t where
  wire := by
    have hflight : bytesInFlight t = bytesInFlight s := by
      simp only [bytesInFlight, sentInFlight, hrbuf, hdphase, htxidx]
    rw [hwire, hflight, h.wire]
  framed := h.framed
  framed_inFlight hd := hrbuf ▸ h.framed_inFlight (hdphase ▸ hd)

/-- R59: a dispatch puts a fresh framed response in flight, none of it sent. -/
theorem dispatch (h : SentFrames base done s) {r : Option (Reading × Reading)}
    (he : enabled s (.dispatch r) = true) : SentFrames base done (Machine.taken (.dispatch r) s) where
  wire := by
    have hready : s.pending = true ∧ s.dphase = .idle := by simpa [enabled] using he
    rw [wireBytes_taken he (by simp), h.wire, bytesInFlight_idle hready.2, bytesInFlight_send rfl]
    rfl
  framed := h.framed
  framed_inFlight _ := ⟨rfl, rfl⟩

/-- R74, R75: `tx_byte` sends the next byte of the response in flight. -/
theorem txByte (h : SentFrames base done s) (hd : s.dphase = .send) : SentFrames base done (txByte s) where
  wire := by
    rw [bytesInFlight_txByte hd, txByte_trace, wireBytes_append, h.wire, ← List.append_assoc]
    rfl
  framed := h.framed
  framed_inFlight _ := by
    rw [txByte_rbuf]
    exact h.framed_inFlight (by simp [hd])

/-- R76: at `retire` the response in flight has gone out whole. -/
theorem retire (h : SentFrames base done s) (hd : s.dphase = .retire) :
    SentFrames base (done ++ [s.rbuf]) (Machine.taken .retire s) where
  wire := by
    have hwire := h.wire
    rw [bytesInFlight_retire hd] at hwire
    rw [bytesInFlight_idle rfl]
    simpa [Machine.taken] using hwire
  framed := by
    have hlast : s.rbuf.Framed := h.framed_inFlight (by simp [hd])
    simpa [or_imp, forall_and] using And.intro h.framed hlast
  framed_inFlight hidle := absurd rfl hidle

/-- Every enabled step but reset keeps the account, and `retire` adds a frame to it. -/
theorem taken (h : SentFrames base done s) {st : Stimulus} (he : enabled s st = true)
    (hr : ∀ lost, st ≠ .reset lost) :
    ∃ done', SentFrames base done' (taken st s) ∧ done'.length = done.length + [st].count .retire := by
  cases st with
  | rx b =>
    obtain ⟨hrbuf, hdphase, htxidx, -⟩ := acceptByte_frame b s
    exact ⟨done, h.congr (wireBytes_taken he (by simp)) hrbuf hdphase htxidx, rfl⟩
  | dispatch r => exact ⟨done, h.dispatch he, rfl⟩
  | tx => exact ⟨done, h.txByte (by simpa [enabled] using he), rfl⟩
  | retire => exact ⟨done ++ [s.rbuf], h.retire (by simpa [enabled] using he), List.length_append⟩
  | reset lost => exact absurd rfl (hr lost)
  | idle => exact ⟨done, h, rfl⟩

/-- The account over a run without reset. -/
theorem feed (h : SentFrames base done s) {sts : List Stimulus} (hr : ∀ lost, Stimulus.reset lost ∉ sts)
    (hrun : feed sts s = .next t) :
    ∃ done', SentFrames base done' t ∧ done'.length = done.length + sts.count .retire := by
  induction sts generalizing s done with
  | nil => cases hrun; exact ⟨done, h, rfl⟩
  | cons st sts ih =>
    obtain ⟨he, hrest⟩ := feed_cons_next hrun
    obtain ⟨mid, hmid, hstep⟩ := h.taken he fun lost hst => hr lost (by simp [hst])
    obtain ⟨done', hdone, hlength⟩ := ih hmid (fun lost hmem => hr lost (List.mem_cons_of_mem st hmem)) hrest
    refine ⟨done', hdone, ?_⟩
    rw [hlength, hstep, Nat.add_assoc, ← List.count_append, List.singleton_append]

end SentFrames

/-- The response in flight, as a list of at most one frame. -/
def framesInFlight (s : State) : List ResponseFrame := if s.dphase = .idle then [] else [s.rbuf]

theorem length_framesInFlight (s : State) : (framesInFlight s).length = if s.dphase = .idle then 0 else 1 := by
  unfold framesInFlight
  split <;> rfl

/-- What has been sent of the response in flight is an initial piece of it. -/
theorem bytesInFlight_prefix (s : State) : bytesInFlight s <+: (framesInFlight s).flatMap ResponseFrame.serialize := by
  by_cases hd : s.dphase = .idle
  · rw [bytesInFlight_idle hd]
    exact List.nil_prefix
  · simpa [framesInFlight, bytesInFlight, hd] using List.take_prefix (sentInFlight s) s.rbuf.serialize

theorem SentFrames.framed_of_mem {base : List Byte} {done : List ResponseFrame} {s : State}
    (h : SentFrames base done s) {f : ResponseFrame} (hf : f ∈ done ++ framesInFlight s) : f.Framed := by
  obtain hdone | hflight := List.mem_append.mp hf
  · exact h.framed f hdone
  · unfold framesInFlight at hflight
    split at hflight
    next => cases hflight
    next hd =>
      rw [List.mem_singleton.mp hflight]
      exact h.framed_inFlight hd

theorem length_flatMap_serialize (fs : List ResponseFrame) :
    (fs.flatMap ResponseFrame.serialize).length = 7 * fs.length := by
  simp [List.length_flatMap, Nat.mul_comm]

/-- Settles O52: the frames are those sent whole and the one in flight, and the bytes sent are an initial piece of
theirs. -/
theorem sentBytesAreWholeFrames : Obligations.SentBytesAreWholeFrames := by
  intro s t sts hd hr hrun
  obtain ⟨done, hsent, hlength⟩ := (SentFrames.of_idle hd).feed hr hrun
  rw [List.length_nil, Nat.zero_add] at hlength
  have hprefix : done.flatMap ResponseFrame.serialize ++ bytesInFlight t <+:
      (done ++ framesInFlight t).flatMap ResponseFrame.serialize := by
    rw [List.flatMap_append]
    exact (List.prefix_append_right_inj _).mpr (bytesInFlight_prefix t)
  refine ⟨done ++ framesInFlight t, done.flatMap ResponseFrame.serialize ++ bytesInFlight t, ?_,
    fun f => hsent.framed_of_mem, List.prefix_iff_eq_take.mp hprefix, ?_, ?_⟩
  · rw [hsent.wire, List.append_assoc]
  · rw [List.length_append, length_flatMap_serialize, length_bytesInFlight, hlength]
  · rw [List.length_append, length_framesInFlight, hlength]

end Sys2Proof.Machine

/-! SUPPORT. The exception statements (spec/60_exceptions.md R80 to R93): the machine always goes on, and what the order
of a received byte and a step of the other agents decides. -/

namespace Sys2Proof.Machine

/-! ## No step faults (R80) -/

/-- Settles O39: a free choice is enabled or `idle`, a received byte is always enabled, and an enabled step completes. -/
theorem forwardProgress : Obligations.ForwardProgress := by
  refine ⟨fun s hs => ?_, fun s b => ⟨_, step_offer_rx b s⟩⟩
  have hchoice : (choose s).1 = settle s (Config.freeStimulus s.choices) := by simp [choose, hs]
  exact ⟨_, by rw [step_eq, hchoice, if_pos (enabled_settle s _)]⟩

/-! ## A received byte beside a step of the dispatcher or serializer (R86) -/

/-- A dispatch or `tx_byte` step is enabled only while a command is pending. -/
theorem State.Inv.pending_of_enabled {s : State} {st : Stimulus} (hi : s.Inv)
    (hst : (∃ r, st = .dispatch r) ∨ st = .tx) (he : enabled s st = true) : s.pending = true := by
  obtain ⟨r, rfl⟩ | rfl := hst
  · have hready : s.pending = true ∧ s.dphase = .idle := by simpa [enabled] using he
    exact hready.1
  · have hd : s.dphase = .send := by simpa [enabled] using he
    exact hi.served_pending (by simp [hd])

/-- Settles O47: a command is pending, so the byte is dropped, and in either order the step does what it does alone. -/
theorem byteCommutesWithDispatchAndTx : Obligations.ByteCommutesWithDispatchAndTx := by
  intro s b st hi hst he
  have hp := hi.pending_of_enabled hst he
  have hc := hi.cursor_of_pending hp
  have hbyte : (Stimulus.rx b).isReception = true := rfl
  have hkept : st.isReception = false := by obtain ⟨r, rfl⟩ | rfl := hst <;> rfl
  have halone : feed [st] s = .next (taken st s) := by rw [feed_cons, if_pos he, feed_nil]
  have hwith (sts : List Stimulus) (hsts : sts.filter (fun x => !x.isReception) = [st]) :
      ∃ w, feed sts s = .next w ∧ SameOutput (taken st s) w :=
    (SameOutput.refl s).feed hc hp (by simpa [hsts] using hst) (by rw [hsts, halone])
  obtain ⟨t, ht, htout⟩ := hwith [.rx b, st] (by simp [hbyte, hkept])
  obtain ⟨u, hu, huout⟩ := hwith [st, .rx b] (by simp [hbyte, hkept])
  refine ⟨t, u, ht, hu, ?_, htout.wire.trans huout.wire.symm, htout.driver.trans huout.driver.symm⟩
  rw [htout.regs, huout.regs]

/-- In `Retire` a `retire` step is taken. -/
theorem feed_retire {s : State} (hd : s.dphase = .retire) (sts : List Stimulus) :
    feed (.retire :: sts) s = feed sts { s with pending := false, dphase := .idle } := by
  rw [feed_cons, if_pos (by simp [enabled, hd])]
  rfl

/-- Settles O48: before `retire` the command is pending and the byte is dropped; after it the cursor is at 0 with nothing
pending, where the sync marker opens a frame. -/
theorem syncByteAroundRetireGoesBothWays : Obligations.SyncByteAroundRetireGoesBothWays := by
  intro s hi hd
  have hp : s.pending = true := hi.served_pending (by simp [hd])
  have hc := hi.cursor_of_pending hp
  constructor
  · have hretire := feed_retire (s := { s with trace := s.trace ++ [.frame .frameDiscarded] }) hd []
    rw [feed_reception rfl, taken_rx_pending 0x80 hc hp, hretire, feed_nil]
  · have hopen := taken_rx_sync (s := { s with pending := false, dphase := .idle }) hc rfl
    rw [feed_retire hd, feed_reception rfl]
    exact congrArg _ hopen

end Sys2Proof.Machine

/-! SUPPORT. The reset and hazard statements (spec/70_reset_and_hazards.md R94 to R105) and D5's clear points
(spec/92_eei_decisions.md): what reset drops, how the reassembler realigns or loses its place, and why a host that waits
sees the same under both clear points. -/

namespace Sys2Proof.Machine

/-! ## One service under either clear point (D5, R97) -/

/-- One offered step under a value of `CLEAR_POINT`. -/
theorem stepWith_offer (cp : Config.ClearPoint) (s : State) (st : Stimulus) :
    stepWith cp (s.offer st) = if enabled s st then take cp st s else .refused (.notEnabled st) := by
  simp only [stepWith, choose_offer, enabled_offer]

/-- A completed step at the front. -/
theorem feedWith_cons_of_step {cp : Config.ClearPoint} {st : Stimulus} {s t : State}
    (h : stepWith cp (s.offer st) = .next t) (sts : List Stimulus) : feedWith cp (st :: sts) s = feedWith cp sts t := by
  rw [feedWith, h]

/-- A sequence after a completed sequence. -/
theorem feedWith_append {cp : Config.ClearPoint} {xs : List Stimulus} {s t : State} (h : feedWith cp xs s = .next t)
    (ys : List Stimulus) : feedWith cp (xs ++ ys) s = feedWith cp ys t := by
  induction xs generalizing s with
  | nil => cases h; rfl
  | cons x xs ih =>
    cases hstep : stepWith cp (s.offer x) with
    | next u =>
      rw [feedWith_cons_of_step hstep] at h
      rw [List.cons_append, feedWith_cons_of_step hstep, ih h]
    | fault f => simp [feedWith, hstep] at h
    | refused q => simp [feedWith, hstep] at h

/-- Handing bytes over does not look at `CLEAR_POINT`. -/
theorem feedWith_replicate_tx (cp : Config.ClearPoint) (n : Nat) (s : State) :
    feedWith cp (List.replicate n .tx) s = feed (List.replicate n .tx) s := by
  induction n generalizing s with
  | zero => rfl
  | succ n ih =>
    by_cases he : enabled s .tx = true
    · have hstep : stepWith cp (s.offer .tx) = .next (txByte s) := by
        rw [stepWith_offer, if_pos he]
        rfl
      rw [List.replicate_succ, feedWith_cons_of_step hstep, feed_cons, if_pos he]
      exact ih (txByte s)
    · simp [List.replicate_succ, feedWith, stepWith_offer, feed_cons, he]

/-- The claim decides on `pending` only. -/
theorem claim_eq (cp : Config.ClearPoint) (s : State) : claim cp s = { s with pending := (claim cp s).pending } := by
  cases cp <;> rfl

/-- Under either clear point `pending` is cleared by the end: at the claim, or at `retire`. -/
theorem retire_claim (cp : Config.ClearPoint) (s : State) : retire cp (claim cp s) = taken .retire s := by
  cases cp <;> rfl

/-- `s` after its seven response bytes have been handed over. -/
def State.handedOver (s : State) : State :=
  { s with dphase := .retire, txidx := 6, trace := s.trace ++ s.rbuf.serialize.map .tx }

/-- Handing the response over commutes with the claim. -/
theorem handedOver_claim (cp : Config.ClearPoint) (s : State) : (claim cp s).handedOver = claim cp s.handedOver := by
  cases cp <;> rfl

/-- R45 `serve`: the service of a pending command ends in this state under either clear point. -/
theorem feedWith_serveStimuli (cp : Config.ClearPoint) (r : Option (Reading × Reading)) {s : State}
    (hp : s.pending = true) (hd : s.dphase = .idle) :
    feedWith cp (serveStimuli r) s = .next (taken .retire (taken (.dispatch r) s).handedOver) := by
  have hdispatch : stepWith cp (s.offer (.dispatch r)) = .next (claim cp (taken (.dispatch r) s)) := by
    rw [stepWith_offer, if_pos (by simp [enabled, hp, hd])]
    exact dispatchStep_eq cp r s
  have hseven : feedWith cp (List.replicate 7 .tx) (claim cp (taken (.dispatch r) s)) =
      .next (claim cp (taken (.dispatch r) s).handedOver) := by
    rw [feedWith_replicate_tx, ← handedOver_claim]
    exact feed_sevenTx (by rw [claim_eq]; rfl) (by rw [claim_eq]; rfl)
  have hretire : stepWith cp ((claim cp (taken (.dispatch r) s).handedOver).offer .retire) =
      .next (taken .retire (taken (.dispatch r) s).handedOver) := by
    rw [stepWith_offer, if_pos (by rw [claim_eq]; rfl), ← retire_claim cp]
    rfl
  have hserve : serveStimuli r = .dispatch r :: (List.replicate 7 .tx ++ [.retire]) := rfl
  rw [hserve, feedWith_cons_of_step hdispatch, feedWith_append hseven, feedWith_cons_of_step hretire, feedWith]

/-- Settles O54: the end state of a service does not mention the clear point. -/
theorem waitingHostCannotSeeClearPoint : Obligations.WaitingHostCannotSeeClearPoint := fun _ r hp hd =>
  ⟨_, feedWith_serveStimuli _ r hp hd, feedWith_serveStimuli _ r hp hd⟩

/-! ## Reset (R94, R95) -/

/-- Settles O43: reset is always enabled, and does not look at the bytes it loses. -/
theorem resetDropsWorkInProgress : Obligations.ResetDropsWorkInProgress := fun s lost =>
  ⟨applyReset lost s, step_offer s _, step_offer s _, applyReset_cursor lost s, applyReset_pending lost s,
    applyReset_dphase lost s, applyReset_txidx lost s, applyReset_trace lost s⟩

/-! ## The place in a frame, found and lost (R98, R99) -/

/-- 0x00 is neither marker: it is stored as an opcode at cursor 1, ends the frame at cursor 2 and is dropped at cursor 0. -/
theorem taken_rx_zero_frame (s : State) : (taken (.rx 0x00) s).pending = s.pending ∧
    (taken (.rx 0x00) s).cursor = if s.cursor = .pos1 then .pos2 else .pos0 := by
  cases hc : s.cursor with
  | pos0 =>
    rw [taken_rx_dropped hc (.inr (by decide))]
    exact ⟨rfl, hc⟩
  | pos1 =>
    rw [taken_rx_opcode _ hc]
    exact ⟨rfl, rfl⟩
  | pos2 =>
    rw [taken_rx_badEnd hc (by decide)]
    exact ⟨rfl, rfl⟩

/-- Settles O16: one 0x00 leaves the cursor at 0 or 2, and from there the next one leaves it at 0. -/
theorem twoZeroBytesRealign : Obligations.TwoZeroBytesRealign := by
  intro s hp
  obtain ⟨hpending, hcursor⟩ := taken_rx_zero_frame s
  obtain ⟨hpending', hcursor'⟩ := taken_rx_zero_frame (taken (.rx 0x00) s)
  have hne : (taken (.rx 0x00) s).cursor ≠ .pos1 := by rw [hcursor]; split <;> simp
  rw [feed_reception rfl, feed_reception rfl, feed_nil]
  exact ⟨_, rfl, hcursor'.trans (if_neg hne), hpending'.trans (hpending.trans hp)⟩

/-- R49, R51: the sync marker and one more byte, from cursor 0 with nothing pending, store that byte as an opcode. -/
theorem feed_sync_opcode {s : State} (c : Byte) (hc : s.cursor = .pos0) (hp : s.pending = false) :
    feed [.rx Config.sync, .rx c] s = .next { s with
      cbuf := { s.cbuf with sync := Config.sync, cmd := c }, cursor := .pos2,
      trace := s.trace ++ [.frame .continue_, .frame .continue_] } := by
  rw [feed_reception rfl, taken_rx_sync hc hp, feed_reception rfl, taken_rx_opcode c rfl, feed_nil]
  simp

/-- Settles O49: the first 0x80 is dropped before `retire`, so the second one opens the frame and 0xFF is its opcode. -/
theorem straddlingFrameDesynchronises : Obligations.StraddlingFrameDesynchronises := by
  intro s hi hd
  have hc : s.cursor = .pos0 := hi.cursor_of_pending (hi.served_pending (by simp [hd]))
  obtain ⟨hdropped, -⟩ := syncByteAroundRetireGoesBothWays s hi hd
  have hrun := (feed_append hdropped).trans (feed_sync_opcode 0xFF hc rfl)
  exact ⟨_, _, hrun, rfl, rfl, (step_offer_rx 0xFF _).trans (congrArg _ (taken_rx_endMark rfl)), rfl, rfl⟩

end Sys2Proof.Machine

/-! SUPPORT. The decision D10 on `MEAS_ORDER` (spec/92_eei_decisions.md; spec/41_dispatcher.md R65, R66): what the order
of the two driver reads shows. -/

namespace Sys2Proof.Machine

/-- The events of a measurement, in the order `o` gives them. -/
def measReads (o : Config.MeasOrder) (vch ich : Channel) : List Event :=
  match o with
  | .voltageFirst => [.read vch, .read ich]
  | .currentFirst => [.read ich, .read vch]

section
variable {s : State} {vi : Reading × Reading} (h : s.measData = some vi)
include h

/-- A scripted reading depends on the channel alone. -/
theorem nextReading_of_script (ch : Channel) : nextReading ch s = ch.pick vi := by
  rw [nextReading, h]

/-- A scripted reading is the same after another read as before it. -/
theorem drvRead_drvRead_of_script (first second : Channel) :
    drvRead second (drvRead first s).2 = (second.pick vi,
      { s with draws := s.draws + 2, trace := s.trace ++ [.read first, .read second] }) := by
  have hsecond : nextReading second (drvRead first s).2 = second.pick vi :=
    nextReading_of_script (s := (drvRead first s).2) h second
  rw [drvRead, hsecond]
  simp [drvRead, emit]

/-- With scripted readings the order shows in the events alone: neither the payload nor the count of reads mentions it. -/
theorem respondMeasured_of_script (o : Config.MeasOrder) (c : Byte) (vch ich : Channel) :
    respondMeasured o c vch ich s = respond c (.meas (vch.pick vi) (ich.pick vi))
      { s with draws := s.draws + 2, trace := s.trace ++ measReads o vch ich } := by
  cases o <;>
    simp only [respondMeasured, drvRead_drvRead_of_script h, drvRead_fst, nextReading_of_script h, measReads]

end

/-- Settles O55: under either order the end state is the same but for `measReads`. -/
theorem measOrderOnlyReordersReads : Obligations.MeasOrderOnlyReordersReads := by
  intro s c vch ich vi h
  simp only [respondMeasured_of_script h]
  exact ⟨rfl, rfl, rfl⟩

end Sys2Proof.Machine
